-- ==== Sys2Proof/Word.lean ====
section
/-! DEFINITION. The two word types of the core (00_scope.md R6): bytes and 16-bit words. -/

namespace Sys2Proof

/-- An 8-bit register or memory value. R6, R20. -/
abbrev Byte := BitVec 8

/-- A 16-bit value: PC, SP, a pair view, an address. R6, R30, R31. -/
abbrev Word := BitVec 16

end Sys2Proof
end

