-- ==== Sys2Proof/Machine/Bits.lean ====
section
/-! DEFINITION. Byte and bit-field helpers of 00_scope.md R8 and R9. -/

namespace Sys2Proof.Machine

/-- `cat16(hi, lo)`, R8. -/
def cat16 (hi lo : Byte) : Word := hi ++ lo

/-- `hi8(v)`, R8. -/
def hi8 (v : Word) : Byte := v.extractLsb' 8 8

/-- `lo8(v)`, R8. -/
def lo8 (v : Word) : Byte := v.extractLsb' 0 8

/-- `sext_16(v)`, R9. -/
def sext16 (v : Byte) : Word := v.signExtend 16

/-- The low nibble of a byte as a number, `v & 0xF` (R9: flag formulas are over the integers). -/
def lowNibble (v : Byte) : Nat := (v &&& 0x0F#8).toNat

/-- Write bit `k` of a byte and leave the other seven, R25. -/
def writeBit (v : Byte) (k : Nat) (b : Bool) : Byte :=
  if b then v ||| (1#8 <<< k) else v &&& ~~~(1#8 <<< k)

/-- A Bool as the bit 0 or 1 of a byte. -/
def bit8 (b : Bool) : Byte := if b then 1#8 else 0#8

end Sys2Proof.Machine
end

