-- ==== Sys2Proof/Config.lean ====
section
/-! DEFINITION. What the spec leaves to the platform as a free value (00_scope.md R7), and the two small types those values are applied to. -/

namespace Sys2Proof

/-- One transaction on the bus: R51 (read) and R52 (write). Every access is one byte, R54. -/
inductive BusAccess where
  | read (addr : Word) (value : Byte)
  | write (addr : Word) (value : Byte)
deriving DecidableEq, Repr

/-- The five scratch bytes of an instruction record, R37. -/
inductive ScratchByte where
  | lo | hi | n | e | t
deriving DecidableEq, Repr

/-- `PERIPHERAL_ORDER` (R7, R292): how many of the platform's peripherals the driver steps before the core in one of
its cycles. The spec does not give it. No rule of the core reads it; only `Config.readDraw` does. -/
opaque Config.peripheralOrder : Nat

/-- `READ_DRAW` (R7, R67): the value that a read of a delegated address returns. It is free: it may depend on
everything done on the bus so far (newest first), on how many calls the driver has made since the last Reset (R283), on the peripherals' place in the
driver's cycle and on the address read. UNSAFE only for a claim that compares two runs (log 4). -/
opaque Config.readDraw : Nat → List BusAccess → Nat → Word → Byte

/-- R37: a scratch byte is undefined until the cycle that writes it. A new record holds a free value there: a function
of the bus history, the count of calls and the name of the scratch byte (log 7, DESIGN CHOICE, safe). -/
opaque Config.unwrittenScratch : List BusAccess → Nat → ScratchByte → Byte

end Sys2Proof
end

