-- ==== Sys2Proof/Machine/State.lean ====
section
/-! DEFINITION. The state of the core and of the bus behind it (10_state.md R39, 20_memory.md R66), the outcomes that stop a step, and the state right after reset. Plain data. -/

namespace Sys2Proof.Machine

/-- The current instruction record, R37. -/
structure Record where
  /-- The opcode byte (the byte after 0xCB for a prefixed instruction). -/
  op : Byte
  table : Table
  /-- Total length in machine cycles; the taken length of a conditional instruction. -/
  len : BitVec 3
  /-- Machine cycles not yet executed. -/
  remaining : BitVec 3
  /-- `ExecuteCycle` calls made on this record. -/
  i : BitVec 3
  lo : Byte
  hi : Byte
  n : Byte
  e : Byte
  t : Byte
deriving DecidableEq, Repr

/-- What the fault slot holds after a decode failure: the byte and the address it was read from. R38, R260. -/
structure DecodeFault where
  opcode : Byte
  addr : Word
deriving DecidableEq, Repr

/-- The backing store of the bus, R66: cells in rising order of address, none of them holding what an unlisted address
reads as (`Memory.wf`). -/
abbrev Memory := List Host.Cell

/-- The state. The order is that of R39; then the bus; then the model's own fields. -/
structure State where
  /-- R20. -/
  a : Byte
  /-- R20, R23, R24: Z N H C in bits 7 to 4. -/
  f : Byte
  /-- R20. -/
  b : Byte
  /-- R20. -/
  c : Byte
  /-- R20. -/
  d : Byte
  /-- R20. -/
  e : Byte
  /-- R20. -/
  h : Byte
  /-- R20. -/
  l : Byte
  /-- R30: the address of the next byte the core will read as an opcode or an immediate. -/
  pc : Word
  /-- R31. -/
  sp : Word
  /-- R32. -/
  ime : Bool
  /-- R33. -/
  imeScheduled : Bool
  /-- R34: recorded by HALT; no step reads it. -/
  haltMode : Bool
  /-- R35: recorded by STOP; no step reads it. -/
  stopMode : Bool
  /-- R36. -/
  prefixPending : Bool
  /-- R37. -/
  record : Option Record
  /-- R38. -/
  fault : Option DecodeFault
  /-- The backing store, R66. -/
  mem : Memory
  /-- `DELEGATED_READ`, R7 and R53: configuration, which no step changes (log 3). -/
  delegatedRead : List Word
  /-- `DELEGATED_WRITE`, R7 and R53: configuration, which no step changes (log 3). -/
  delegatedWrite : List Word
  /-- The model's own: every bus transaction so far, newest first; R52's events of delegated writes are among them
  (log 5). -/
  bus : List BusAccess
  /-- The model's own: the calls of `AdvanceMachineCycle` since the last Reset, R283. It is not the core's state, R269
  (log 6). -/
  cycles : Nat
deriving DecidableEq, Repr

/-- The reasons a step can stop. The hardware has none (R263: its one exception fills the fault slot and is a next state);
these two stop states that no run from Reset reaches (R90, log 12). -/
inductive Fault where
  /-- Raised by `step` and by every meaning when there is neither a current record nor a recorded decode fault, so that
  there is nothing to execute. SAFE: the spec gives no behaviour there (R90, R284). -/
  | noCurrentRecord
  /-- Raised by a meaning when the record's cycle index is 0 or beyond the last line of the instruction's schedule. SAFE:
  R84 to R86 never form such an index. -/
  | noScheduledCycle
deriving DecidableEq, Repr

/-- The reasons an instruction can be refused. -/
inductive Refusal where
  /-- An instruction without a meaning, raised by `exec` alone. No arm of this model uses it. SAFE. -/
  | notModelled (mnemonic : String)
deriving DecidableEq, Repr

/-- The outcome of one machine cycle. -/
abbrev Result := Host.Outcome State Fault Refusal

/-- The state after `Reset()` with its initial fetch, over memory that nothing has written: R40, R280, R281, R284, vector
V70-1 of 95_test_vectors.md. The delegate sets are empty (log 3, DESIGN CHOICE), the byte at 0x0100 reads 0 (R66), so the
record is NOP's; its scratch bytes are free values (log 7). -/
def State.reset : State where
  a := 0x01
  f := 0xB0
  b := 0x00
  c := 0x13
  d := 0x00
  e := 0xD8
  h := 0x01
  l := 0x4D
  pc := 0x0101
  sp := 0xFFFE
  ime := false
  imeScheduled := false
  haltMode := false
  stopMode := false
  prefixPending := false
  record := some
    { op := 0x00, table := .base, len := 1, remaining := 1, i := 0
      lo := Config.unwrittenScratch [.read 0x0100 0x00] 0 .lo
      hi := Config.unwrittenScratch [.read 0x0100 0x00] 0 .hi
      n := Config.unwrittenScratch [.read 0x0100 0x00] 0 .n
      e := Config.unwrittenScratch [.read 0x0100 0x00] 0 .e
      t := Config.unwrittenScratch [.read 0x0100 0x00] 0 .t }
  fault := none
  mem := []
  delegatedRead := []
  delegatedWrite := []
  bus := [.read 0x0100 0x00]
  cycles := 0

end Sys2Proof.Machine
end

