-- ==== Sys2Proof/Machine/Flags.lean ====
section
/-! DEFINITION. The flag bits of F (10_state.md R24, R25) and every result and flag computation of 43_alu8.md, 44_alu16.md and 47_prefixed.md, as functions of bytes. -/

namespace Sys2Proof.Machine

/-! ### The flag bits, R24 and R25 -/

def State.flagZ (s : State) : Bool := s.f.getLsbD 7
def State.flagN (s : State) : Bool := s.f.getLsbD 6
def State.flagH (s : State) : Bool := s.f.getLsbD 5
def State.flagC (s : State) : Bool := s.f.getLsbD 4

def State.setFlagZ (s : State) (b : Bool) : State := { s with f := writeBit s.f 7 b }
def State.setFlagN (s : State) (b : Bool) : State := { s with f := writeBit s.f 6 b }
def State.setFlagH (s : State) (b : Bool) : State := { s with f := writeBit s.f 5 b }
def State.setFlagC (s : State) (b : Bool) : State := { s with f := writeBit s.f 4 b }

/-- The value of F with the four flags given and the low nibble 0: R142. -/
def znhc (z n h c : Bool) : Byte :=
  (bit8 z <<< 7) ||| (bit8 n <<< 6) ||| (bit8 h <<< 5) ||| (bit8 c <<< 4)

/-- `SetZNHC`, R142. -/
def State.setZNHC (s : State) (z n h c : Bool) : State := { s with f := znhc z n h c }

/-! ### Accumulator operations, R140 to R142 -/

/-- A result with its four flags. -/
structure AluOut where
  v : Byte
  z : Bool
  n : Bool
  h : Bool
  c : Bool
deriving DecidableEq, Repr

/-- `Add8`, R140. -/
def add8 (a b : Byte) (cin : Bool) : AluOut :=
  let sum := a.toNat + b.toNat + cin.toNat
  let v := BitVec.ofNat 8 sum
  { v := v, z := v == 0#8, n := false
    h := decide (lowNibble a + lowNibble b + cin.toNat > 0xF)
    c := decide (sum > 0xFF) }

/-- `Sub8`, R140. -/
def sub8 (a b : Byte) (cin : Bool) : AluOut :=
  let diff : Int := (a.toNat : Int) - (b.toNat : Int) - (cin.toNat : Int)
  let v := BitVec.ofInt 8 diff
  { v := v, z := v == 0#8, n := true
    h := decide ((lowNibble a : Int) - (lowNibble b : Int) - (cin.toNat : Int) < 0)
    c := decide (diff < 0) }

/-- `And8`, R141. -/
def and8 (a b : Byte) : AluOut := { v := a &&& b, z := (a &&& b) == 0#8, n := false, h := true, c := false }

/-- `Xor8`, R141. -/
def xor8 (a b : Byte) : AluOut := { v := a ^^^ b, z := (a ^^^ b) == 0#8, n := false, h := false, c := false }

/-- `Or8`, R141. -/
def or8 (a b : Byte) : AluOut := { v := a ||| b, z := (a ||| b) == 0#8, n := false, h := false, c := false }

/-- The operation `ooo` on A, an operand and the carry flag: R78, R143 to R166. -/
def aluOut (o : AluOp) (a x : Byte) (carry : Bool) : AluOut :=
  match o with
  | .add => add8 a x false
  | .adc => add8 a x carry
  | .sub => sub8 a x false
  | .sbc => sub8 a x carry
  | .and => and8 a x
  | .xor => xor8 a x
  | .or => or8 a x
  | .cp => sub8 a x false

/-- Every operation but CP writes its result to A: R142. -/
def aluWritesA : AluOp → Bool
  | .add => true
  | .adc => true
  | .sub => true
  | .sbc => true
  | .and => true
  | .xor => true
  | .or => true
  | .cp => false

/-- Run an accumulator operation on A and an operand byte: R142 to R166. -/
def State.alu (s : State) (o : AluOp) (x : Byte) : State :=
  let r := aluOut o s.a x s.flagC
  ({ s with a := if aluWritesA o then r.v else s.a }).setZNHC r.z r.n r.h r.c

/-! ### 8-bit INC and DEC, R167 to R170 -/

/-- The flags of INC on the old byte `o`: `Z0H-`. -/
def State.incFlags (s : State) (o : Byte) : State :=
  ((s.setFlagZ (o + 1#8 == 0#8)).setFlagN false).setFlagH (o &&& 0x0F#8 == 0x0F#8)

/-- The flags of DEC on the old byte `o`: `Z1H-`. -/
def State.decFlags (s : State) (o : Byte) : State :=
  ((s.setFlagZ (o - 1#8 == 0#8)).setFlagN true).setFlagH (o &&& 0x0F#8 == 0x00#8)

/-! ### Accumulator and flag operations, R171 to R178 -/

/-- The new A and the new C of DAA, R171. -/
def daaOut (a : Byte) (n h c : Bool) : Byte × Bool :=
  if n then
    let a1 := if c then a - 0x60#8 else a
    let a2 := if h then a1 - 0x06#8 else a1
    (a2, c)
  else
    let adjust := c || decide (a.toNat > 0x99)
    let a1 := if adjust then a + 0x60#8 else a
    let a2 := if h || decide (lowNibble a1 > 0x9) then a1 + 0x06#8 else a1
    (a2, adjust)

/-- DAA, R171: `Z-0C`. -/
def State.daa (s : State) : State :=
  let r := daaOut s.a s.flagN s.flagH s.flagC
  ((({ s with a := r.1 }).setFlagZ (r.1 == 0#8)).setFlagH false).setFlagC r.2

/-- CPL, R172: `-11-`. -/
def State.cpl (s : State) : State :=
  (({ s with a := s.a ^^^ 0xFF#8 }).setFlagN true).setFlagH true

/-- SCF, R173: `-001`. -/
def State.scf (s : State) : State := ((s.setFlagN false).setFlagH false).setFlagC true

/-- CCF, R174: `-00C`. -/
def State.ccf (s : State) : State := ((s.setFlagN false).setFlagH false).setFlagC (!s.flagC)

/-! ### Rotates and shifts, R175 to R178 and R231 to R246 -/

/-- The result and the carry out of a rotate or shift of `x` with the carry flag `carry`. -/
def rotOut (o : RotOp) (x : Byte) (carry : Bool) : Byte × Bool :=
  match o with
  | .rlc => ((x <<< 1) ||| bit8 (x.getLsbD 7), x.getLsbD 7)
  | .rrc => ((x >>> 1) ||| (bit8 (x.getLsbD 0) <<< 7), x.getLsbD 0)
  | .rl => ((x <<< 1) ||| bit8 carry, x.getLsbD 7)
  | .rr => ((x >>> 1) ||| (bit8 carry <<< 7), x.getLsbD 0)
  | .sla => (x <<< 1, x.getLsbD 7)
  | .sra => ((x >>> 1) ||| (x &&& 0x80#8), x.getLsbD 0)
  | .swap => ((x <<< 4) ||| (x >>> 4), false)
  | .srl => (x >>> 1, x.getLsbD 0)

/-- The accumulator rotates RLCA, RRCA, RLA, RRA: the rotate of A with Z forced to 0, R175 to R178: `000C`. -/
def State.rotA (s : State) (o : RotOp) : State :=
  let r := rotOut o s.a s.flagC
  ({ s with a := r.1 }).setZNHC false false false r.2

/-- The flags of a prefixed rotate or shift: `Z00C`, R230. -/
def State.rotFlags (s : State) (r : Byte × Bool) : State := s.setZNHC (r.1 == 0#8) false false r.2

/-! ### Bit test, reset and set, R247 to R252 -/

/-- The flags of BIT: `Z01-`, R247. -/
def State.bitFlags (s : State) (x : Byte) (k : BitVec 3) : State :=
  ((s.setFlagZ (!x.getLsbD k.toNat)).setFlagN false).setFlagH true

/-- The byte with bit `k` cleared, R249. -/
def resBit (x : Byte) (k : BitVec 3) : Byte := x &&& (0xFF#8 ^^^ (1#8 <<< k.toNat))

/-- The byte with bit `k` set, R251. -/
def setBit (x : Byte) (k : BitVec 3) : Byte := x ||| (1#8 <<< k.toNat)

/-! ### 16-bit additions, R192 and R193 -/

/-- The flags of ADD HL,dd on the old HL `x` and the operand `y`: `-0HC`, R192. -/
def State.addHLFlags (s : State) (x y : Word) : State :=
  ((s.setFlagN false).setFlagH (decide ((x &&& 0x0FFF#16).toNat + (y &&& 0x0FFF#16).toNat > 0xFFF))).setFlagC
    (decide (x.toNat + y.toNat > 0xFFFF))

/-- The value of `SpPlusE`, R193. -/
def spPlusE (sp : Word) (e : Byte) : Word := sp + sext16 e

/-- The half-carry of `SpPlusE`, R193. -/
def spPlusEH (sp : Word) (e : Byte) : Bool := decide ((sp &&& 0x000F#16).toNat + (e &&& 0x0F#8).toNat > 0xF)

/-- The carry of `SpPlusE`, R193. -/
def spPlusEC (sp : Word) (e : Byte) : Bool := decide ((sp &&& 0x00FF#16).toNat + (e &&& 0xFF#8).toNat > 0xFF)

end Sys2Proof.Machine
end

