-- ==== Sys2Proof/WellFormed.lean ====
section
/-! DEFINITION. Which terms of `Instr` are instructions: the eleven UNDEFINED rows of the table are not (30_encoding.md R82). -/

namespace Sys2Proof

/-- The 11 undefined bytes of R82. -/
def undefinedBytes : List Byte :=
  [0xD3, 0xDB, 0xDD, 0xE3, 0xE4, 0xEB, 0xEC, 0xED, 0xF4, 0xFC, 0xFD]

/-- The terms that stand for the undefined bytes. -/
def undefinedInstrs : List Instr :=
  [.undefined_D3, .undefined_DB, .undefined_DD, .undefined_E3, .undefined_E4, .undefined_EB, .undefined_EC,
   .undefined_ED, .undefined_F4, .undefined_FC, .undefined_FD]

/-- An instruction of the core: one of the 245 of R92 or the 256 of R93. -/
def Instr.wellFormed (i : Instr) : Bool := !undefinedInstrs.contains i

end Sys2Proof
end

