-- ==== Sys2Proof/Decode.lean ====
section
/-! DEFINITION. The decoder of both tables (30_encoding.md R81 to R84), the encoder beside it, and the lengths of R92 and R93. -/

namespace Sys2Proof

/-- Why a decode answers no instruction. -/
inductive DecodeReject where
  /-- One of the 11 undefined bytes of R82. -/
  | undefinedOpcode (op : Byte)
  /-- No byte to decode. -/
  | noByte
deriving DecidableEq, Repr

/-! ### The opcode maps, R92 and R93 -/

/-- Row 0x of the base map, R92. -/
def baseRow0 : List Instr :=
  [.nop, .ld_BC_nn, .ld_mBC_A, .inc_BC, .inc_B, .dec_B, .ld_B_n, .rlca,
   .ld_mnn_SP, .add_HL_BC, .ld_A_mBC, .dec_BC, .inc_C, .dec_C, .ld_C_n, .rrca]

/-- Row 1x of the base map, R92. -/
def baseRow1 : List Instr :=
  [.stop, .ld_DE_nn, .ld_mDE_A, .inc_DE, .inc_D, .dec_D, .ld_D_n, .rla,
   .jr_e, .add_HL_DE, .ld_A_mDE, .dec_DE, .inc_E, .dec_E, .ld_E_n, .rra]

/-- Row 2x of the base map, R92. -/
def baseRow2 : List Instr :=
  [.jr_NZ_e, .ld_HL_nn, .ld_mHLi_A, .inc_HL, .inc_H, .dec_H, .ld_H_n, .daa,
   .jr_Z_e, .add_HL_HL, .ld_A_mHLi, .dec_HL, .inc_L, .dec_L, .ld_L_n, .cpl]

/-- Row 3x of the base map, R92. -/
def baseRow3 : List Instr :=
  [.jr_NC_e, .ld_SP_nn, .ld_mHLd_A, .inc_SP, .inc_mHL, .dec_mHL, .ld_mHL_n, .scf,
   .jr_C_e, .add_HL_SP, .ld_A_mHLd, .dec_SP, .inc_A, .dec_A, .ld_A_n, .ccf]

/-- Row 4x of the base map, R92. -/
def baseRow4 : List Instr :=
  [.ld_B_B, .ld_B_C, .ld_B_D, .ld_B_E, .ld_B_H, .ld_B_L, .ld_B_mHL, .ld_B_A,
   .ld_C_B, .ld_C_C, .ld_C_D, .ld_C_E, .ld_C_H, .ld_C_L, .ld_C_mHL, .ld_C_A]

/-- Row 5x of the base map, R92. -/
def baseRow5 : List Instr :=
  [.ld_D_B, .ld_D_C, .ld_D_D, .ld_D_E, .ld_D_H, .ld_D_L, .ld_D_mHL, .ld_D_A,
   .ld_E_B, .ld_E_C, .ld_E_D, .ld_E_E, .ld_E_H, .ld_E_L, .ld_E_mHL, .ld_E_A]

/-- Row 6x of the base map, R92. -/
def baseRow6 : List Instr :=
  [.ld_H_B, .ld_H_C, .ld_H_D, .ld_H_E, .ld_H_H, .ld_H_L, .ld_H_mHL, .ld_H_A,
   .ld_L_B, .ld_L_C, .ld_L_D, .ld_L_E, .ld_L_H, .ld_L_L, .ld_L_mHL, .ld_L_A]

/-- Row 7x of the base map, R92. -/
def baseRow7 : List Instr :=
  [.ld_mHL_B, .ld_mHL_C, .ld_mHL_D, .ld_mHL_E, .ld_mHL_H, .ld_mHL_L, .halt, .ld_mHL_A,
   .ld_A_B, .ld_A_C, .ld_A_D, .ld_A_E, .ld_A_H, .ld_A_L, .ld_A_mHL, .ld_A_A]

/-- Row 8x of the base map, R92. -/
def baseRow8 : List Instr :=
  [.add_A_B, .add_A_C, .add_A_D, .add_A_E, .add_A_H, .add_A_L, .add_A_mHL, .add_A_A,
   .adc_A_B, .adc_A_C, .adc_A_D, .adc_A_E, .adc_A_H, .adc_A_L, .adc_A_mHL, .adc_A_A]

/-- Row 9x of the base map, R92. -/
def baseRow9 : List Instr :=
  [.sub_B, .sub_C, .sub_D, .sub_E, .sub_H, .sub_L, .sub_mHL, .sub_A,
   .sbc_A_B, .sbc_A_C, .sbc_A_D, .sbc_A_E, .sbc_A_H, .sbc_A_L, .sbc_A_mHL, .sbc_A_A]

/-- Row Ax of the base map, R92. -/
def baseRowA : List Instr :=
  [.and_B, .and_C, .and_D, .and_E, .and_H, .and_L, .and_mHL, .and_A,
   .xor_B, .xor_C, .xor_D, .xor_E, .xor_H, .xor_L, .xor_mHL, .xor_A]

/-- Row Bx of the base map, R92. -/
def baseRowB : List Instr :=
  [.or_B, .or_C, .or_D, .or_E, .or_H, .or_L, .or_mHL, .or_A,
   .cp_B, .cp_C, .cp_D, .cp_E, .cp_H, .cp_L, .cp_mHL, .cp_A]

/-- Row Cx of the base map, R92. -/
def baseRowC : List Instr :=
  [.ret_NZ, .pop_BC, .jp_NZ_nn, .jp_nn, .call_NZ_nn, .push_BC, .add_A_n, .rst_00,
   .ret_Z, .ret, .jp_Z_nn, .prefixCB, .call_Z_nn, .call_nn, .adc_A_n, .rst_08]

/-- Row Dx of the base map, R92. -/
def baseRowD : List Instr :=
  [.ret_NC, .pop_DE, .jp_NC_nn, .undefined_D3, .call_NC_nn, .push_DE, .sub_n, .rst_10,
   .ret_C, .reti, .jp_C_nn, .undefined_DB, .call_C_nn, .undefined_DD, .sbc_A_n, .rst_18]

/-- Row Ex of the base map, R92. -/
def baseRowE : List Instr :=
  [.ldh_mn_A, .pop_HL, .ld_mC_A, .undefined_E3, .undefined_E4, .push_HL, .and_n, .rst_20,
   .add_SP_e, .jp_HL, .ld_mnn_A, .undefined_EB, .undefined_EC, .undefined_ED, .xor_n, .rst_28]

/-- Row Fx of the base map, R92. -/
def baseRowF : List Instr :=
  [.ldh_A_mn, .pop_AF, .ld_A_mC, .di, .undefined_F4, .push_AF, .or_n, .rst_30,
   .ld_HL_SPe, .ld_SP_HL, .ld_A_mnn, .ei, .undefined_FC, .undefined_FD, .cp_n, .rst_38]

/-- The base opcode map: the row is the high nibble, the column the low nibble (R91, R92). -/
def baseMap : List (List Instr) :=
  [baseRow0, baseRow1, baseRow2, baseRow3, baseRow4, baseRow5, baseRow6, baseRow7,
   baseRow8, baseRow9, baseRowA, baseRowB, baseRowC, baseRowD, baseRowE, baseRowF]

/-- Row 0x of the prefixed map, R93. -/
def prefixedRow0 : List Instr :=
  [.rlc_B, .rlc_C, .rlc_D, .rlc_E, .rlc_H, .rlc_L, .rlc_mHL, .rlc_A,
   .rrc_B, .rrc_C, .rrc_D, .rrc_E, .rrc_H, .rrc_L, .rrc_mHL, .rrc_A]

/-- Row 1x of the prefixed map, R93. -/
def prefixedRow1 : List Instr :=
  [.rl_B, .rl_C, .rl_D, .rl_E, .rl_H, .rl_L, .rl_mHL, .rl_A,
   .rr_B, .rr_C, .rr_D, .rr_E, .rr_H, .rr_L, .rr_mHL, .rr_A]

/-- Row 2x of the prefixed map, R93. -/
def prefixedRow2 : List Instr :=
  [.sla_B, .sla_C, .sla_D, .sla_E, .sla_H, .sla_L, .sla_mHL, .sla_A,
   .sra_B, .sra_C, .sra_D, .sra_E, .sra_H, .sra_L, .sra_mHL, .sra_A]

/-- Row 3x of the prefixed map, R93. -/
def prefixedRow3 : List Instr :=
  [.swap_B, .swap_C, .swap_D, .swap_E, .swap_H, .swap_L, .swap_mHL, .swap_A,
   .srl_B, .srl_C, .srl_D, .srl_E, .srl_H, .srl_L, .srl_mHL, .srl_A]

/-- Row 4x of the prefixed map, R93. -/
def prefixedRow4 : List Instr :=
  [.bit_0_B, .bit_0_C, .bit_0_D, .bit_0_E, .bit_0_H, .bit_0_L, .bit_0_mHL, .bit_0_A,
   .bit_1_B, .bit_1_C, .bit_1_D, .bit_1_E, .bit_1_H, .bit_1_L, .bit_1_mHL, .bit_1_A]

/-- Row 5x of the prefixed map, R93. -/
def prefixedRow5 : List Instr :=
  [.bit_2_B, .bit_2_C, .bit_2_D, .bit_2_E, .bit_2_H, .bit_2_L, .bit_2_mHL, .bit_2_A,
   .bit_3_B, .bit_3_C, .bit_3_D, .bit_3_E, .bit_3_H, .bit_3_L, .bit_3_mHL, .bit_3_A]

/-- Row 6x of the prefixed map, R93. -/
def prefixedRow6 : List Instr :=
  [.bit_4_B, .bit_4_C, .bit_4_D, .bit_4_E, .bit_4_H, .bit_4_L, .bit_4_mHL, .bit_4_A,
   .bit_5_B, .bit_5_C, .bit_5_D, .bit_5_E, .bit_5_H, .bit_5_L, .bit_5_mHL, .bit_5_A]

/-- Row 7x of the prefixed map, R93. -/
def prefixedRow7 : List Instr :=
  [.bit_6_B, .bit_6_C, .bit_6_D, .bit_6_E, .bit_6_H, .bit_6_L, .bit_6_mHL, .bit_6_A,
   .bit_7_B, .bit_7_C, .bit_7_D, .bit_7_E, .bit_7_H, .bit_7_L, .bit_7_mHL, .bit_7_A]

/-- Row 8x of the prefixed map, R93. -/
def prefixedRow8 : List Instr :=
  [.res_0_B, .res_0_C, .res_0_D, .res_0_E, .res_0_H, .res_0_L, .res_0_mHL, .res_0_A,
   .res_1_B, .res_1_C, .res_1_D, .res_1_E, .res_1_H, .res_1_L, .res_1_mHL, .res_1_A]

/-- Row 9x of the prefixed map, R93. -/
def prefixedRow9 : List Instr :=
  [.res_2_B, .res_2_C, .res_2_D, .res_2_E, .res_2_H, .res_2_L, .res_2_mHL, .res_2_A,
   .res_3_B, .res_3_C, .res_3_D, .res_3_E, .res_3_H, .res_3_L, .res_3_mHL, .res_3_A]

/-- Row Ax of the prefixed map, R93. -/
def prefixedRowA : List Instr :=
  [.res_4_B, .res_4_C, .res_4_D, .res_4_E, .res_4_H, .res_4_L, .res_4_mHL, .res_4_A,
   .res_5_B, .res_5_C, .res_5_D, .res_5_E, .res_5_H, .res_5_L, .res_5_mHL, .res_5_A]

/-- Row Bx of the prefixed map, R93. -/
def prefixedRowB : List Instr :=
  [.res_6_B, .res_6_C, .res_6_D, .res_6_E, .res_6_H, .res_6_L, .res_6_mHL, .res_6_A,
   .res_7_B, .res_7_C, .res_7_D, .res_7_E, .res_7_H, .res_7_L, .res_7_mHL, .res_7_A]

/-- Row Cx of the prefixed map, R93. -/
def prefixedRowC : List Instr :=
  [.set_0_B, .set_0_C, .set_0_D, .set_0_E, .set_0_H, .set_0_L, .set_0_mHL, .set_0_A,
   .set_1_B, .set_1_C, .set_1_D, .set_1_E, .set_1_H, .set_1_L, .set_1_mHL, .set_1_A]

/-- Row Dx of the prefixed map, R93. -/
def prefixedRowD : List Instr :=
  [.set_2_B, .set_2_C, .set_2_D, .set_2_E, .set_2_H, .set_2_L, .set_2_mHL, .set_2_A,
   .set_3_B, .set_3_C, .set_3_D, .set_3_E, .set_3_H, .set_3_L, .set_3_mHL, .set_3_A]

/-- Row Ex of the prefixed map, R93. -/
def prefixedRowE : List Instr :=
  [.set_4_B, .set_4_C, .set_4_D, .set_4_E, .set_4_H, .set_4_L, .set_4_mHL, .set_4_A,
   .set_5_B, .set_5_C, .set_5_D, .set_5_E, .set_5_H, .set_5_L, .set_5_mHL, .set_5_A]

/-- Row Fx of the prefixed map, R93. -/
def prefixedRowF : List Instr :=
  [.set_6_B, .set_6_C, .set_6_D, .set_6_E, .set_6_H, .set_6_L, .set_6_mHL, .set_6_A,
   .set_7_B, .set_7_C, .set_7_D, .set_7_E, .set_7_H, .set_7_L, .set_7_mHL, .set_7_A]

/-- The prefixed opcode map: the row is the high nibble, the column the low nibble (R91, R93). -/
def prefixedMap : List (List Instr) :=
  [prefixedRow0, prefixedRow1, prefixedRow2, prefixedRow3, prefixedRow4, prefixedRow5, prefixedRow6, prefixedRow7,
   prefixedRow8, prefixedRow9, prefixedRowA, prefixedRowB, prefixedRowC, prefixedRowD, prefixedRowE, prefixedRowF]

/-- The entry of a map at a byte. Every row has 16 columns, so the default is never met. -/
def mapEntry (m : List (List Instr)) (op : Byte) : Instr :=
  (m.getD (op.toNat / 16) []).getD (op.toNat % 16) .nop

/-- `Decode(op)`, R81 and R82: the instruction of a byte of the base table, or a rejection of the 11 undefined bytes. -/
def decodeBase (op : Byte) : Except DecodeReject Instr :=
  let i := mapEntry baseMap op
  if i.wellFormed then .ok i else .error (.undefinedOpcode op)

/-- `DecodePrefixed(op)`, R83: defined for every byte. -/
def decodePrefixed (op : Byte) : Instr := mapEntry prefixedMap op

/-- The decode of one opcode byte in the table that the fetch selects, R88. -/
def decodeIn (tbl : Table) (op : Byte) : Except DecodeReject Instr :=
  match tbl with
  | .base => decodeBase op
  | .prefixed => .ok (decodePrefixed op)

/-- The row of the opcode table at a byte, the UNDEFINED rows among them. -/
def rowOf (tbl : Table) (op : Byte) : Instr :=
  match tbl with
  | .base => mapEntry baseMap op
  | .prefixed => mapEntry prefixedMap op

/-- Decode the opcode bytes at the head of an instruction stream: the escape byte 0xCB with a byte after it selects the
prefixed table (R70 format `cb`, R225); alone it is PREFIX. Immediate bytes are no part of decoding (R70). -/
def decodeBytes (bs : List Byte) : Except DecodeReject Instr :=
  match bs with
  | [] => .error .noByte
  | [op] => decodeBase op
  | op :: op' :: _ => if op = 0xCB#8 then .ok (decodePrefixed op') else decodeBase op

/-- The opcode bytes of a table word of `nbits` bits, in the order in which they lie in memory: one byte where the word
has one, the first two where it has more. -/
def opcodeBytesOf (nbits w : Nat) : List Byte :=
  if nbits ≤ 8 then [BitVec.ofNat 8 w] else [BitVec.ofNat 8 w, BitVec.ofNat 8 (w / 256)]

/-- The instruction that the decoder reads from the table word `w` (bit 0 is bit 0 of the first byte). A word of one byte
is read in the base table; a longer word that begins with 0xCB is a prefixed instruction (log 9). -/
def decodeTableWord (nbits w : Nat) : Option Instr :=
  (decodeBytes (opcodeBytesOf nbits w)).toOption

/-! ### The form of each instruction -/

/-- The family and operands of each instruction, read from its row's mnemonic. -/
def Instr.form : Instr → Form
  | .nop => .nop
  | .ld_BC_nn => .ldPairNN .bc
  | .ld_mBC_A => .ldBCA
  | .inc_BC => .incPair .bc
  | .inc_B => .incR .b
  | .dec_B => .decR .b
  | .ld_B_n => .ldRN .b
  | .rlca => .rlca
  | .ld_mnn_SP => .ldNNSP
  | .add_HL_BC => .addHL .bc
  | .ld_A_mBC => .ldABC
  | .dec_BC => .decPair .bc
  | .inc_C => .incR .c
  | .dec_C => .decR .c
  | .ld_C_n => .ldRN .c
  | .rrca => .rrca
  | .stop => .stop
  | .ld_DE_nn => .ldPairNN .de
  | .ld_mDE_A => .ldDEA
  | .inc_DE => .incPair .de
  | .inc_D => .incR .d
  | .dec_D => .decR .d
  | .ld_D_n => .ldRN .d
  | .rla => .rla
  | .jr_e => .jr
  | .add_HL_DE => .addHL .de
  | .ld_A_mDE => .ldADE
  | .dec_DE => .decPair .de
  | .inc_E => .incR .e
  | .dec_E => .decR .e
  | .ld_E_n => .ldRN .e
  | .rra => .rra
  | .jr_NZ_e => .jrCc .nz
  | .ld_HL_nn => .ldPairNN .hl
  | .ld_mHLi_A => .ldHLIA
  | .inc_HL => .incPair .hl
  | .inc_H => .incR .h
  | .dec_H => .decR .h
  | .ld_H_n => .ldRN .h
  | .daa => .daa
  | .jr_Z_e => .jrCc .z
  | .add_HL_HL => .addHL .hl
  | .ld_A_mHLi => .ldAHLI
  | .dec_HL => .decPair .hl
  | .inc_L => .incR .l
  | .dec_L => .decR .l
  | .ld_L_n => .ldRN .l
  | .cpl => .cpl
  | .jr_NC_e => .jrCc .nc
  | .ld_SP_nn => .ldPairNN .sp
  | .ld_mHLd_A => .ldHLDA
  | .inc_SP => .incPair .sp
  | .inc_mHL => .incM
  | .dec_mHL => .decM
  | .ld_mHL_n => .ldMN
  | .scf => .scf
  | .jr_C_e => .jrCc .c
  | .add_HL_SP => .addHL .sp
  | .ld_A_mHLd => .ldAHLD
  | .dec_SP => .decPair .sp
  | .inc_A => .incR .a
  | .dec_A => .decR .a
  | .ld_A_n => .ldRN .a
  | .ccf => .ccf
  | .ld_B_B => .ldRR .b .b
  | .ld_B_C => .ldRR .b .c
  | .ld_B_D => .ldRR .b .d
  | .ld_B_E => .ldRR .b .e
  | .ld_B_H => .ldRR .b .h
  | .ld_B_L => .ldRR .b .l
  | .ld_B_mHL => .ldRM .b
  | .ld_B_A => .ldRR .b .a
  | .ld_C_B => .ldRR .c .b
  | .ld_C_C => .ldRR .c .c
  | .ld_C_D => .ldRR .c .d
  | .ld_C_E => .ldRR .c .e
  | .ld_C_H => .ldRR .c .h
  | .ld_C_L => .ldRR .c .l
  | .ld_C_mHL => .ldRM .c
  | .ld_C_A => .ldRR .c .a
  | .ld_D_B => .ldRR .d .b
  | .ld_D_C => .ldRR .d .c
  | .ld_D_D => .ldRR .d .d
  | .ld_D_E => .ldRR .d .e
  | .ld_D_H => .ldRR .d .h
  | .ld_D_L => .ldRR .d .l
  | .ld_D_mHL => .ldRM .d
  | .ld_D_A => .ldRR .d .a
  | .ld_E_B => .ldRR .e .b
  | .ld_E_C => .ldRR .e .c
  | .ld_E_D => .ldRR .e .d
  | .ld_E_E => .ldRR .e .e
  | .ld_E_H => .ldRR .e .h
  | .ld_E_L => .ldRR .e .l
  | .ld_E_mHL => .ldRM .e
  | .ld_E_A => .ldRR .e .a
  | .ld_H_B => .ldRR .h .b
  | .ld_H_C => .ldRR .h .c
  | .ld_H_D => .ldRR .h .d
  | .ld_H_E => .ldRR .h .e
  | .ld_H_H => .ldRR .h .h
  | .ld_H_L => .ldRR .h .l
  | .ld_H_mHL => .ldRM .h
  | .ld_H_A => .ldRR .h .a
  | .ld_L_B => .ldRR .l .b
  | .ld_L_C => .ldRR .l .c
  | .ld_L_D => .ldRR .l .d
  | .ld_L_E => .ldRR .l .e
  | .ld_L_H => .ldRR .l .h
  | .ld_L_L => .ldRR .l .l
  | .ld_L_mHL => .ldRM .l
  | .ld_L_A => .ldRR .l .a
  | .ld_mHL_B => .ldMR .b
  | .ld_mHL_C => .ldMR .c
  | .ld_mHL_D => .ldMR .d
  | .ld_mHL_E => .ldMR .e
  | .ld_mHL_H => .ldMR .h
  | .ld_mHL_L => .ldMR .l
  | .halt => .halt
  | .ld_mHL_A => .ldMR .a
  | .ld_A_B => .ldRR .a .b
  | .ld_A_C => .ldRR .a .c
  | .ld_A_D => .ldRR .a .d
  | .ld_A_E => .ldRR .a .e
  | .ld_A_H => .ldRR .a .h
  | .ld_A_L => .ldRR .a .l
  | .ld_A_mHL => .ldRM .a
  | .ld_A_A => .ldRR .a .a
  | .add_A_B => .aluR .add .b
  | .add_A_C => .aluR .add .c
  | .add_A_D => .aluR .add .d
  | .add_A_E => .aluR .add .e
  | .add_A_H => .aluR .add .h
  | .add_A_L => .aluR .add .l
  | .add_A_mHL => .aluM .add
  | .add_A_A => .aluR .add .a
  | .adc_A_B => .aluR .adc .b
  | .adc_A_C => .aluR .adc .c
  | .adc_A_D => .aluR .adc .d
  | .adc_A_E => .aluR .adc .e
  | .adc_A_H => .aluR .adc .h
  | .adc_A_L => .aluR .adc .l
  | .adc_A_mHL => .aluM .adc
  | .adc_A_A => .aluR .adc .a
  | .sub_B => .aluR .sub .b
  | .sub_C => .aluR .sub .c
  | .sub_D => .aluR .sub .d
  | .sub_E => .aluR .sub .e
  | .sub_H => .aluR .sub .h
  | .sub_L => .aluR .sub .l
  | .sub_mHL => .aluM .sub
  | .sub_A => .aluR .sub .a
  | .sbc_A_B => .aluR .sbc .b
  | .sbc_A_C => .aluR .sbc .c
  | .sbc_A_D => .aluR .sbc .d
  | .sbc_A_E => .aluR .sbc .e
  | .sbc_A_H => .aluR .sbc .h
  | .sbc_A_L => .aluR .sbc .l
  | .sbc_A_mHL => .aluM .sbc
  | .sbc_A_A => .aluR .sbc .a
  | .and_B => .aluR .and .b
  | .and_C => .aluR .and .c
  | .and_D => .aluR .and .d
  | .and_E => .aluR .and .e
  | .and_H => .aluR .and .h
  | .and_L => .aluR .and .l
  | .and_mHL => .aluM .and
  | .and_A => .aluR .and .a
  | .xor_B => .aluR .xor .b
  | .xor_C => .aluR .xor .c
  | .xor_D => .aluR .xor .d
  | .xor_E => .aluR .xor .e
  | .xor_H => .aluR .xor .h
  | .xor_L => .aluR .xor .l
  | .xor_mHL => .aluM .xor
  | .xor_A => .aluR .xor .a
  | .or_B => .aluR .or .b
  | .or_C => .aluR .or .c
  | .or_D => .aluR .or .d
  | .or_E => .aluR .or .e
  | .or_H => .aluR .or .h
  | .or_L => .aluR .or .l
  | .or_mHL => .aluM .or
  | .or_A => .aluR .or .a
  | .cp_B => .aluR .cp .b
  | .cp_C => .aluR .cp .c
  | .cp_D => .aluR .cp .d
  | .cp_E => .aluR .cp .e
  | .cp_H => .aluR .cp .h
  | .cp_L => .aluR .cp .l
  | .cp_mHL => .aluM .cp
  | .cp_A => .aluR .cp .a
  | .ret_NZ => .retCc .nz
  | .pop_BC => .pop .bc
  | .jp_NZ_nn => .jpCc .nz
  | .jp_nn => .jp
  | .call_NZ_nn => .callCc .nz
  | .push_BC => .push .bc
  | .add_A_n => .aluN .add
  | .rst_00 => .rst 0
  | .ret_Z => .retCc .z
  | .ret => .ret
  | .jp_Z_nn => .jpCc .z
  | .prefixCB => .prefixCB
  | .call_Z_nn => .callCc .z
  | .call_nn => .call
  | .adc_A_n => .aluN .adc
  | .rst_08 => .rst 1
  | .ret_NC => .retCc .nc
  | .pop_DE => .pop .de
  | .jp_NC_nn => .jpCc .nc
  | .undefined_D3 => .undefined 0xD3
  | .call_NC_nn => .callCc .nc
  | .push_DE => .push .de
  | .sub_n => .aluN .sub
  | .rst_10 => .rst 2
  | .ret_C => .retCc .c
  | .reti => .reti
  | .jp_C_nn => .jpCc .c
  | .undefined_DB => .undefined 0xDB
  | .call_C_nn => .callCc .c
  | .undefined_DD => .undefined 0xDD
  | .sbc_A_n => .aluN .sbc
  | .rst_18 => .rst 3
  | .ldh_mn_A => .ldhNA
  | .pop_HL => .pop .hl
  | .ld_mC_A => .ldCA
  | .undefined_E3 => .undefined 0xE3
  | .undefined_E4 => .undefined 0xE4
  | .push_HL => .push .hl
  | .and_n => .aluN .and
  | .rst_20 => .rst 4
  | .add_SP_e => .addSPE
  | .jp_HL => .jpHL
  | .ld_mnn_A => .ldNNA
  | .undefined_EB => .undefined 0xEB
  | .undefined_EC => .undefined 0xEC
  | .undefined_ED => .undefined 0xED
  | .xor_n => .aluN .xor
  | .rst_28 => .rst 5
  | .ldh_A_mn => .ldhAN
  | .pop_AF => .pop .af
  | .ld_A_mC => .ldAC
  | .di => .di
  | .undefined_F4 => .undefined 0xF4
  | .push_AF => .push .af
  | .or_n => .aluN .or
  | .rst_30 => .rst 6
  | .ld_HL_SPe => .ldHLSPE
  | .ld_SP_HL => .ldSPHL
  | .ld_A_mnn => .ldANN
  | .ei => .ei
  | .undefined_FC => .undefined 0xFC
  | .undefined_FD => .undefined 0xFD
  | .cp_n => .aluN .cp
  | .rst_38 => .rst 7
  | .rlc_B => .rotR .rlc .b
  | .rlc_C => .rotR .rlc .c
  | .rlc_D => .rotR .rlc .d
  | .rlc_E => .rotR .rlc .e
  | .rlc_H => .rotR .rlc .h
  | .rlc_L => .rotR .rlc .l
  | .rlc_mHL => .rotM .rlc
  | .rlc_A => .rotR .rlc .a
  | .rrc_B => .rotR .rrc .b
  | .rrc_C => .rotR .rrc .c
  | .rrc_D => .rotR .rrc .d
  | .rrc_E => .rotR .rrc .e
  | .rrc_H => .rotR .rrc .h
  | .rrc_L => .rotR .rrc .l
  | .rrc_mHL => .rotM .rrc
  | .rrc_A => .rotR .rrc .a
  | .rl_B => .rotR .rl .b
  | .rl_C => .rotR .rl .c
  | .rl_D => .rotR .rl .d
  | .rl_E => .rotR .rl .e
  | .rl_H => .rotR .rl .h
  | .rl_L => .rotR .rl .l
  | .rl_mHL => .rotM .rl
  | .rl_A => .rotR .rl .a
  | .rr_B => .rotR .rr .b
  | .rr_C => .rotR .rr .c
  | .rr_D => .rotR .rr .d
  | .rr_E => .rotR .rr .e
  | .rr_H => .rotR .rr .h
  | .rr_L => .rotR .rr .l
  | .rr_mHL => .rotM .rr
  | .rr_A => .rotR .rr .a
  | .sla_B => .rotR .sla .b
  | .sla_C => .rotR .sla .c
  | .sla_D => .rotR .sla .d
  | .sla_E => .rotR .sla .e
  | .sla_H => .rotR .sla .h
  | .sla_L => .rotR .sla .l
  | .sla_mHL => .rotM .sla
  | .sla_A => .rotR .sla .a
  | .sra_B => .rotR .sra .b
  | .sra_C => .rotR .sra .c
  | .sra_D => .rotR .sra .d
  | .sra_E => .rotR .sra .e
  | .sra_H => .rotR .sra .h
  | .sra_L => .rotR .sra .l
  | .sra_mHL => .rotM .sra
  | .sra_A => .rotR .sra .a
  | .swap_B => .rotR .swap .b
  | .swap_C => .rotR .swap .c
  | .swap_D => .rotR .swap .d
  | .swap_E => .rotR .swap .e
  | .swap_H => .rotR .swap .h
  | .swap_L => .rotR .swap .l
  | .swap_mHL => .rotM .swap
  | .swap_A => .rotR .swap .a
  | .srl_B => .rotR .srl .b
  | .srl_C => .rotR .srl .c
  | .srl_D => .rotR .srl .d
  | .srl_E => .rotR .srl .e
  | .srl_H => .rotR .srl .h
  | .srl_L => .rotR .srl .l
  | .srl_mHL => .rotM .srl
  | .srl_A => .rotR .srl .a
  | .bit_0_B => .bitR 0 .b
  | .bit_0_C => .bitR 0 .c
  | .bit_0_D => .bitR 0 .d
  | .bit_0_E => .bitR 0 .e
  | .bit_0_H => .bitR 0 .h
  | .bit_0_L => .bitR 0 .l
  | .bit_0_mHL => .bitM 0
  | .bit_0_A => .bitR 0 .a
  | .bit_1_B => .bitR 1 .b
  | .bit_1_C => .bitR 1 .c
  | .bit_1_D => .bitR 1 .d
  | .bit_1_E => .bitR 1 .e
  | .bit_1_H => .bitR 1 .h
  | .bit_1_L => .bitR 1 .l
  | .bit_1_mHL => .bitM 1
  | .bit_1_A => .bitR 1 .a
  | .bit_2_B => .bitR 2 .b
  | .bit_2_C => .bitR 2 .c
  | .bit_2_D => .bitR 2 .d
  | .bit_2_E => .bitR 2 .e
  | .bit_2_H => .bitR 2 .h
  | .bit_2_L => .bitR 2 .l
  | .bit_2_mHL => .bitM 2
  | .bit_2_A => .bitR 2 .a
  | .bit_3_B => .bitR 3 .b
  | .bit_3_C => .bitR 3 .c
  | .bit_3_D => .bitR 3 .d
  | .bit_3_E => .bitR 3 .e
  | .bit_3_H => .bitR 3 .h
  | .bit_3_L => .bitR 3 .l
  | .bit_3_mHL => .bitM 3
  | .bit_3_A => .bitR 3 .a
  | .bit_4_B => .bitR 4 .b
  | .bit_4_C => .bitR 4 .c
  | .bit_4_D => .bitR 4 .d
  | .bit_4_E => .bitR 4 .e
  | .bit_4_H => .bitR 4 .h
  | .bit_4_L => .bitR 4 .l
  | .bit_4_mHL => .bitM 4
  | .bit_4_A => .bitR 4 .a
  | .bit_5_B => .bitR 5 .b
  | .bit_5_C => .bitR 5 .c
  | .bit_5_D => .bitR 5 .d
  | .bit_5_E => .bitR 5 .e
  | .bit_5_H => .bitR 5 .h
  | .bit_5_L => .bitR 5 .l
  | .bit_5_mHL => .bitM 5
  | .bit_5_A => .bitR 5 .a
  | .bit_6_B => .bitR 6 .b
  | .bit_6_C => .bitR 6 .c
  | .bit_6_D => .bitR 6 .d
  | .bit_6_E => .bitR 6 .e
  | .bit_6_H => .bitR 6 .h
  | .bit_6_L => .bitR 6 .l
  | .bit_6_mHL => .bitM 6
  | .bit_6_A => .bitR 6 .a
  | .bit_7_B => .bitR 7 .b
  | .bit_7_C => .bitR 7 .c
  | .bit_7_D => .bitR 7 .d
  | .bit_7_E => .bitR 7 .e
  | .bit_7_H => .bitR 7 .h
  | .bit_7_L => .bitR 7 .l
  | .bit_7_mHL => .bitM 7
  | .bit_7_A => .bitR 7 .a
  | .res_0_B => .resR 0 .b
  | .res_0_C => .resR 0 .c
  | .res_0_D => .resR 0 .d
  | .res_0_E => .resR 0 .e
  | .res_0_H => .resR 0 .h
  | .res_0_L => .resR 0 .l
  | .res_0_mHL => .resM 0
  | .res_0_A => .resR 0 .a
  | .res_1_B => .resR 1 .b
  | .res_1_C => .resR 1 .c
  | .res_1_D => .resR 1 .d
  | .res_1_E => .resR 1 .e
  | .res_1_H => .resR 1 .h
  | .res_1_L => .resR 1 .l
  | .res_1_mHL => .resM 1
  | .res_1_A => .resR 1 .a
  | .res_2_B => .resR 2 .b
  | .res_2_C => .resR 2 .c
  | .res_2_D => .resR 2 .d
  | .res_2_E => .resR 2 .e
  | .res_2_H => .resR 2 .h
  | .res_2_L => .resR 2 .l
  | .res_2_mHL => .resM 2
  | .res_2_A => .resR 2 .a
  | .res_3_B => .resR 3 .b
  | .res_3_C => .resR 3 .c
  | .res_3_D => .resR 3 .d
  | .res_3_E => .resR 3 .e
  | .res_3_H => .resR 3 .h
  | .res_3_L => .resR 3 .l
  | .res_3_mHL => .resM 3
  | .res_3_A => .resR 3 .a
  | .res_4_B => .resR 4 .b
  | .res_4_C => .resR 4 .c
  | .res_4_D => .resR 4 .d
  | .res_4_E => .resR 4 .e
  | .res_4_H => .resR 4 .h
  | .res_4_L => .resR 4 .l
  | .res_4_mHL => .resM 4
  | .res_4_A => .resR 4 .a
  | .res_5_B => .resR 5 .b
  | .res_5_C => .resR 5 .c
  | .res_5_D => .resR 5 .d
  | .res_5_E => .resR 5 .e
  | .res_5_H => .resR 5 .h
  | .res_5_L => .resR 5 .l
  | .res_5_mHL => .resM 5
  | .res_5_A => .resR 5 .a
  | .res_6_B => .resR 6 .b
  | .res_6_C => .resR 6 .c
  | .res_6_D => .resR 6 .d
  | .res_6_E => .resR 6 .e
  | .res_6_H => .resR 6 .h
  | .res_6_L => .resR 6 .l
  | .res_6_mHL => .resM 6
  | .res_6_A => .resR 6 .a
  | .res_7_B => .resR 7 .b
  | .res_7_C => .resR 7 .c
  | .res_7_D => .resR 7 .d
  | .res_7_E => .resR 7 .e
  | .res_7_H => .resR 7 .h
  | .res_7_L => .resR 7 .l
  | .res_7_mHL => .resM 7
  | .res_7_A => .resR 7 .a
  | .set_0_B => .setR 0 .b
  | .set_0_C => .setR 0 .c
  | .set_0_D => .setR 0 .d
  | .set_0_E => .setR 0 .e
  | .set_0_H => .setR 0 .h
  | .set_0_L => .setR 0 .l
  | .set_0_mHL => .setM 0
  | .set_0_A => .setR 0 .a
  | .set_1_B => .setR 1 .b
  | .set_1_C => .setR 1 .c
  | .set_1_D => .setR 1 .d
  | .set_1_E => .setR 1 .e
  | .set_1_H => .setR 1 .h
  | .set_1_L => .setR 1 .l
  | .set_1_mHL => .setM 1
  | .set_1_A => .setR 1 .a
  | .set_2_B => .setR 2 .b
  | .set_2_C => .setR 2 .c
  | .set_2_D => .setR 2 .d
  | .set_2_E => .setR 2 .e
  | .set_2_H => .setR 2 .h
  | .set_2_L => .setR 2 .l
  | .set_2_mHL => .setM 2
  | .set_2_A => .setR 2 .a
  | .set_3_B => .setR 3 .b
  | .set_3_C => .setR 3 .c
  | .set_3_D => .setR 3 .d
  | .set_3_E => .setR 3 .e
  | .set_3_H => .setR 3 .h
  | .set_3_L => .setR 3 .l
  | .set_3_mHL => .setM 3
  | .set_3_A => .setR 3 .a
  | .set_4_B => .setR 4 .b
  | .set_4_C => .setR 4 .c
  | .set_4_D => .setR 4 .d
  | .set_4_E => .setR 4 .e
  | .set_4_H => .setR 4 .h
  | .set_4_L => .setR 4 .l
  | .set_4_mHL => .setM 4
  | .set_4_A => .setR 4 .a
  | .set_5_B => .setR 5 .b
  | .set_5_C => .setR 5 .c
  | .set_5_D => .setR 5 .d
  | .set_5_E => .setR 5 .e
  | .set_5_H => .setR 5 .h
  | .set_5_L => .setR 5 .l
  | .set_5_mHL => .setM 5
  | .set_5_A => .setR 5 .a
  | .set_6_B => .setR 6 .b
  | .set_6_C => .setR 6 .c
  | .set_6_D => .setR 6 .d
  | .set_6_E => .setR 6 .e
  | .set_6_H => .setR 6 .h
  | .set_6_L => .setR 6 .l
  | .set_6_mHL => .setM 6
  | .set_6_A => .setR 6 .a
  | .set_7_B => .setR 7 .b
  | .set_7_C => .setR 7 .c
  | .set_7_D => .setR 7 .d
  | .set_7_E => .setR 7 .e
  | .set_7_H => .setR 7 .h
  | .set_7_L => .setR 7 .l
  | .set_7_mHL => .setM 7
  | .set_7_A => .setR 7 .a

/-! ### Operand fields, R26 and R74 to R80 -/

/-- The register at a 3-bit index, R26; index 6 is (HL), which is no register (R27). -/
def regAt (i : BitVec 3) : Option Reg8 :=
  match i.toNat with
  | 0 => some .b
  | 1 => some .c
  | 2 => some .d
  | 3 => some .e
  | 4 => some .h
  | 5 => some .l
  | 6 => none
  | _ => some .a

/-- The index of a register, R26. -/
def Reg8.index : Reg8 → BitVec 3
  | .b => 0b000#3
  | .c => 0b001#3
  | .d => 0b010#3
  | .e => 0b011#3
  | .h => 0b100#3
  | .l => 0b101#3
  | .a => 0b111#3

/-- The index 110 of (HL), R26. -/
def indexM : BitVec 3 := 0b110#3

/-- The field value of `dd`, R75. -/
def Pair.field : Pair → BitVec 2
  | .bc => 0b00#2
  | .de => 0b01#2
  | .hl => 0b10#2
  | .sp => 0b11#2

/-- The field value of `qq`, R76. -/
def StackPair.field : StackPair → BitVec 2
  | .bc => 0b00#2
  | .de => 0b01#2
  | .hl => 0b10#2
  | .af => 0b11#2

/-- The field value of `cc`, R77. -/
def Cond.field : Cond → BitVec 2
  | .nz => 0b00#2
  | .z => 0b01#2
  | .nc => 0b10#2
  | .c => 0b11#2

/-- The field value of `ooo`, R78. -/
def AluOp.field : AluOp → BitVec 3
  | .add => 0b000#3
  | .adc => 0b001#3
  | .sub => 0b010#3
  | .sbc => 0b011#3
  | .and => 0b100#3
  | .xor => 0b101#3
  | .or => 0b110#3
  | .cp => 0b111#3

/-- The field value of a rotate or shift, R80. -/
def RotOp.field : RotOp → BitVec 3
  | .rlc => 0b000#3
  | .rrc => 0b001#3
  | .rl => 0b010#3
  | .rr => 0b011#3
  | .sla => 0b100#3
  | .sra => 0b101#3
  | .swap => 0b110#3
  | .srl => 0b111#3

/-- The pair at a `dd` field value, R75. -/
def pairAt (v : BitVec 2) : Pair :=
  match v.toNat with
  | 0 => .bc
  | 1 => .de
  | 2 => .hl
  | _ => .sp

/-- The pair at a `qq` field value, R76. -/
def stackPairAt (v : BitVec 2) : StackPair :=
  match v.toNat with
  | 0 => .bc
  | 1 => .de
  | 2 => .hl
  | _ => .af

/-- The condition at a `cc` field value, R77. -/
def condAt (v : BitVec 2) : Cond :=
  match v.toNat with
  | 0 => .nz
  | 1 => .z
  | 2 => .nc
  | _ => .c

/-- The accumulator operation at an `ooo` field value, R78. -/
def aluOpAt (v : BitVec 3) : AluOp :=
  match v.toNat with
  | 0 => .add
  | 1 => .adc
  | 2 => .sub
  | 3 => .sbc
  | 4 => .and
  | 5 => .xor
  | 6 => .or
  | _ => .cp

/-- The rotate or shift at a sub-operation field value, R80. -/
def rotOpAt (v : BitVec 3) : RotOp :=
  match v.toNat with
  | 0 => .rlc
  | 1 => .rrc
  | 2 => .rl
  | 3 => .rr
  | 4 => .sla
  | 5 => .sra
  | 6 => .swap
  | _ => .srl

/-! ### The ordered rules of R81 -/

/-- Step 2 of R81: the bytes matched exactly. -/
def exactBytes : List (Byte × Form) :=
  [(0x00, .nop), (0x10, .stop), (0x76, .halt), (0xF3, .di), (0xFB, .ei), (0xCB, .prefixCB),
   (0x07, .rlca), (0x0F, .rrca), (0x17, .rla), (0x1F, .rra), (0x27, .daa), (0x2F, .cpl), (0x37, .scf), (0x3F, .ccf)] ++
  [(0x08, .ldNNSP), (0xF9, .ldSPHL), (0xE8, .addSPE), (0xF8, .ldHLSPE), (0x18, .jr), (0xC3, .jp), (0xE9, .jpHL),
   (0xCD, .call), (0xC9, .ret), (0xD9, .reti)] ++
  [(0xE0, .ldhNA), (0xF0, .ldhAN), (0xE2, .ldCA), (0xF2, .ldAC), (0xEA, .ldNNA), (0xFA, .ldANN),
   (0x02, .ldBCA), (0x12, .ldDEA), (0x22, .ldHLIA), (0x32, .ldHLDA),
   (0x0A, .ldABC), (0x1A, .ldADE), (0x2A, .ldAHLI), (0x3A, .ldAHLD), (0x36, .ldMN)]

/-- `op` has the value `v` in the bits of `mask`. -/
def matchesBits (op mask v : Byte) : Bool := (op &&& mask) == v

/-- `Decode(op)` by the ordered mask-and-compare rules of R81, steps 1 to 9. -/
def decodeByRules (op : Byte) : Option Form :=
  let hi3 := op.extractLsb' 3 3
  let lo3 := op.extractLsb' 0 3
  let pairBits := op.extractLsb' 4 2
  let ccBits := op.extractLsb' 3 2
  if undefinedBytes.contains op then none
  else match exactBytes.lookup op with
  | some f => some f
  | none =>
    if matchesBits op 0b11100111 0b00100000 then some (.jrCc (condAt ccBits))
    else if matchesBits op 0b11100111 0b11000010 then some (.jpCc (condAt ccBits))
    else if matchesBits op 0b11100111 0b11000100 then some (.callCc (condAt ccBits))
    else if matchesBits op 0b11100111 0b11000000 then some (.retCc (condAt ccBits))
    else if matchesBits op 0b11000111 0b11000111 then some (.rst hi3)
    else if matchesBits op 0b11001111 0b11000101 then some (.push (stackPairAt pairBits))
    else if matchesBits op 0b11001111 0b11000001 then some (.pop (stackPairAt pairBits))
    else if matchesBits op 0b11001111 0b00000001 then some (.ldPairNN (pairAt pairBits))
    else if matchesBits op 0b11001111 0b00000011 then some (.incPair (pairAt pairBits))
    else if matchesBits op 0b11001111 0b00001011 then some (.decPair (pairAt pairBits))
    else if matchesBits op 0b11001111 0b00001001 then some (.addHL (pairAt pairBits))
    else if matchesBits op 0b11000111 0b00000100 then some ((regAt hi3).elim .incM .incR)
    else if matchesBits op 0b11000111 0b00000101 then some ((regAt hi3).elim .decM .decR)
    else if matchesBits op 0b11000111 0b00000110 then (regAt hi3).map .ldRN
    else if matchesBits op 0b11000000 0b01000000 then
      match regAt hi3, regAt lo3 with
      | some dst, none => some (.ldRM dst)
      | none, some src => some (.ldMR src)
      | some dst, some src => some (.ldRR dst src)
      | none, none => none
    else if matchesBits op 0b11000000 0b10000000 then some ((regAt lo3).elim (.aluM (aluOpAt hi3)) (.aluR (aluOpAt hi3)))
    else if matchesBits op 0b11000111 0b11000110 then some (.aluN (aluOpAt hi3))
    else none

/-- `DecodePrefixed(op)` by the three fields of R80 alone (R83). -/
def decodePrefixedByFields (op : Byte) : Form :=
  let b := op.extractLsb' 3 3
  let r := regAt (op.extractLsb' 0 3)
  match (op.extractLsb' 6 2).toNat with
  | 0 => r.elim (.rotM (rotOpAt b)) (.rotR (rotOpAt b))
  | 1 => r.elim (.bitM b) (.bitR b)
  | 2 => r.elim (.resM b) (.resR b)
  | _ => r.elim (.setM b) (.setR b)

/-! ### The encoder -/

/-- The opcode byte of a form and its table, from the bit patterns of R74 to R81. -/
def Form.opcode : Form → Table × Byte
  | .nop => (.base, 0b00000000)
  | .halt => (.base, 0b01110110)
  | .stop => (.base, 0b00010000)
  | .di => (.base, 0b11110011)
  | .ei => (.base, 0b11111011)
  | .prefixCB => (.base, 0b11001011)
  | .ldRR dst src => (.base, 0b01#2 ++ dst.index ++ src.index)
  | .ldRN dst => (.base, 0b00#2 ++ dst.index ++ 0b110#3)
  | .ldRM dst => (.base, 0b01#2 ++ dst.index ++ indexM)
  | .ldMR src => (.base, 0b01#2 ++ indexM ++ src.index)
  | .ldMN => (.base, 0b00110110)
  | .ldABC => (.base, 0b00001010)
  | .ldADE => (.base, 0b00011010)
  | .ldBCA => (.base, 0b00000010)
  | .ldDEA => (.base, 0b00010010)
  | .ldANN => (.base, 0b11111010)
  | .ldNNA => (.base, 0b11101010)
  | .ldhAN => (.base, 0b11110000)
  | .ldhNA => (.base, 0b11100000)
  | .ldAC => (.base, 0b11110010)
  | .ldCA => (.base, 0b11100010)
  | .ldAHLI => (.base, 0b00101010)
  | .ldAHLD => (.base, 0b00111010)
  | .ldHLIA => (.base, 0b00100010)
  | .ldHLDA => (.base, 0b00110010)
  | .ldPairNN dd => (.base, 0b00#2 ++ dd.field ++ 0b0001#4)
  | .ldNNSP => (.base, 0b00001000)
  | .ldSPHL => (.base, 0b11111001)
  | .push qq => (.base, 0b11#2 ++ qq.field ++ 0b0101#4)
  | .pop qq => (.base, 0b11#2 ++ qq.field ++ 0b0001#4)
  | .aluR o src => (.base, 0b10#2 ++ o.field ++ src.index)
  | .aluM o => (.base, 0b10#2 ++ o.field ++ indexM)
  | .aluN o => (.base, 0b11#2 ++ o.field ++ 0b110#3)
  | .incR dst => (.base, 0b00#2 ++ dst.index ++ 0b100#3)
  | .incM => (.base, 0b00110100)
  | .decR dst => (.base, 0b00#2 ++ dst.index ++ 0b101#3)
  | .decM => (.base, 0b00110101)
  | .daa => (.base, 0b00100111)
  | .cpl => (.base, 0b00101111)
  | .scf => (.base, 0b00110111)
  | .ccf => (.base, 0b00111111)
  | .rlca => (.base, 0b00000111)
  | .rrca => (.base, 0b00001111)
  | .rla => (.base, 0b00010111)
  | .rra => (.base, 0b00011111)
  | .incPair dd => (.base, 0b00#2 ++ dd.field ++ 0b0011#4)
  | .decPair dd => (.base, 0b00#2 ++ dd.field ++ 0b1011#4)
  | .addHL dd => (.base, 0b00#2 ++ dd.field ++ 0b1001#4)
  | .addSPE => (.base, 0b11101000)
  | .ldHLSPE => (.base, 0b11111000)
  | .jp => (.base, 0b11000011)
  | .jpCc cc => (.base, 0b110#3 ++ cc.field ++ 0b010#3)
  | .jpHL => (.base, 0b11101001)
  | .jr => (.base, 0b00011000)
  | .jrCc cc => (.base, 0b001#3 ++ cc.field ++ 0b000#3)
  | .call => (.base, 0b11001101)
  | .callCc cc => (.base, 0b110#3 ++ cc.field ++ 0b100#3)
  | .ret => (.base, 0b11001001)
  | .retCc cc => (.base, 0b110#3 ++ cc.field ++ 0b000#3)
  | .reti => (.base, 0b11011001)
  | .rst ttt => (.base, 0b11#2 ++ ttt ++ 0b111#3)
  | .rotR o src => (.prefixed, 0b00#2 ++ o.field ++ src.index)
  | .rotM o => (.prefixed, 0b00#2 ++ o.field ++ indexM)
  | .bitR k src => (.prefixed, 0b01#2 ++ k ++ src.index)
  | .bitM k => (.prefixed, 0b01#2 ++ k ++ indexM)
  | .resR k src => (.prefixed, 0b10#2 ++ k ++ src.index)
  | .resM k => (.prefixed, 0b10#2 ++ k ++ indexM)
  | .setR k src => (.prefixed, 0b11#2 ++ k ++ src.index)
  | .setM k => (.prefixed, 0b11#2 ++ k ++ indexM)
  | .undefined op => (.base, op)

/-- The opcode bytes of an instruction, in memory order: R70. The immediate bytes after them are the program's data. -/
def encode (i : Instr) : List Byte :=
  match i.form.opcode with
  | (.base, op) => [op]
  | (.prefixed, op) => [0xCB#8, op]

/-! ### Lengths, R92 and R93 -/

/-- The length in machine cycles, the taken length for a conditional instruction: R84, R92, R93 (the prefixed record
alone). No cycle of an undefined byte runs (R260). -/
def Form.cycles : Form → BitVec 3
  | .nop => 1 | .halt => 1 | .stop => 1 | .di => 1 | .ei => 1 | .prefixCB => 1
  | .ldRR _ _ => 1 | .ldRN _ => 2 | .ldRM _ => 2 | .ldMR _ => 2 | .ldMN => 3
  | .ldABC => 2 | .ldADE => 2 | .ldBCA => 2 | .ldDEA => 2 | .ldANN => 4 | .ldNNA => 4
  | .ldhAN => 3 | .ldhNA => 3 | .ldAC => 2 | .ldCA => 2
  | .ldAHLI => 2 | .ldAHLD => 2 | .ldHLIA => 2 | .ldHLDA => 2
  | .ldPairNN _ => 3 | .ldNNSP => 5 | .ldSPHL => 2 | .push _ => 4 | .pop _ => 3
  | .aluR _ _ => 1 | .aluM _ => 2 | .aluN _ => 2
  | .incR _ => 1 | .incM => 3 | .decR _ => 1 | .decM => 3
  | .daa => 1 | .cpl => 1 | .scf => 1 | .ccf => 1 | .rlca => 1 | .rrca => 1 | .rla => 1 | .rra => 1
  | .incPair _ => 2 | .decPair _ => 2 | .addHL _ => 2 | .addSPE => 4 | .ldHLSPE => 3
  | .jp => 4 | .jpCc _ => 4 | .jpHL => 1 | .jr => 3 | .jrCc _ => 3
  | .call => 6 | .callCc _ => 6 | .ret => 4 | .retCc _ => 5 | .reti => 4 | .rst _ => 4
  | .rotR _ _ => 1 | .rotM _ => 3 | .bitR _ _ => 1 | .bitM _ => 2
  | .resR _ _ => 1 | .resM _ => 3 | .setR _ _ => 1 | .setM _ => 3
  | .undefined _ => 0

/-- The not-taken length of a conditional instruction: R87, R202, R205, R207, R209. -/
def Form.cyclesNotTaken : Form → Option (BitVec 3)
  | .jpCc _ => some 3
  | .jrCc _ => some 2
  | .callCc _ => some 3
  | .retCc _ => some 2
  | _ => none

/-- The length in bytes, immediates included: R92, and R70 for the format `cb`. -/
def Form.bytes : Form → Nat
  | .ldRN _ => 2 | .ldMN => 2 | .ldhAN => 2 | .ldhNA => 2 | .aluN _ => 2 | .addSPE => 2 | .ldHLSPE => 2
  | .jr => 2 | .jrCc _ => 2
  | .ldANN => 3 | .ldNNA => 3 | .ldPairNN _ => 3 | .ldNNSP => 3
  | .jp => 3 | .jpCc _ => 3 | .call => 3 | .callCc _ => 3
  | .rotR _ _ => 2 | .rotM _ => 2 | .bitR _ _ => 2 | .bitM _ => 2 | .resR _ _ => 2 | .resM _ => 2 | .setR _ _ => 2
  | .setM _ => 2
  | _ => 1

end Sys2Proof
end

