-- ==== Sys2Proof/Machine/Ops.lean ====
section
/-! DEFINITION. The shared operations: the backing store, the bus (20_memory.md), the stack and immediate primitives, the decode fault (60_exceptions.md), the driver's fetch (30_encoding.md R88), Reset (70_reset_and_hazards.md) and the observation port. -/

namespace Sys2Proof.Machine

/-! ### The backing store, R66 -/

/-- What an address that nothing has written reads as: R51, R66. -/
def Memory.unlisted : Byte := 0x00#8

/-- The byte of the backing store at an address. -/
def Memory.read (m : Memory) (addr : Word) : Byte :=
  match m.lookup addr.toNat with
  | some v => v
  | none => Memory.unlisted

/-- Put a byte at a key of a cell list in rising order; the byte an unlisted address reads as removes the entry. -/
def Memory.put : Memory → Nat → Byte → Memory
  | [], k, v => if v = Memory.unlisted then [] else [(k, v)]
  | (k', v') :: rest, k, v =>
    if k < k' then (if v = Memory.unlisted then (k', v') :: rest else (k, v) :: (k', v') :: rest)
    else if k = k' then (if v = Memory.unlisted then rest else (k, v) :: rest)
    else (k', v') :: Memory.put rest k v

/-- Store a byte at an address. -/
def Memory.write (m : Memory) (addr : Word) (v : Byte) : Memory := Memory.put m addr.toNat v

/-- The canonical form: addresses strictly rising and inside the 64 KB space (R50), no entry equal to what an unlisted
address reads as. -/
abbrev Memory.wf (m : Memory) : Prop :=
  m.Pairwise (fun x y => x.1 < y.1) ∧ ∀ cell ∈ m, cell.1 < 65536 ∧ cell.2 ≠ Memory.unlisted

/-! ### The bus, R51 to R54 -/

/-- The value a read of `addr` returns now: a free draw for a delegated address (R67), else the backing store (R66). -/
def State.readValue (s : State) (addr : Word) : Byte :=
  if s.delegatedRead.contains addr then Config.readDraw Config.peripheralOrder s.bus s.cycles addr
  else Memory.read s.mem addr

/-- `MemRead(addr, 1)`, R51: the value, and the state with the transaction recorded. -/
def State.memRead (s : State) (addr : Word) : Byte × State :=
  (s.readValue addr, { s with bus := .read addr (s.readValue addr) :: s.bus })

/-- `MemWrite(addr, 1, v)`, R52: a write to a delegated address is an event and nothing more; else the backing store
takes the byte. -/
def State.memWrite (s : State) (addr : Word) (v : Byte) : State :=
  { s with
    mem := if s.delegatedWrite.contains addr then s.mem else Memory.write s.mem addr v
    bus := .write addr v :: s.bus }

/-- `Imm8()`, R71. -/
def State.imm8 (s : State) : Byte × State :=
  ((s.memRead s.pc).1, { (s.memRead s.pc).2 with pc := s.pc + 1 })

/-- `Push8(v)`, R56. -/
def State.push8 (s : State) (v : Byte) : State :=
  ({ s with sp := s.sp - 1 }).memWrite (s.sp - 1) v

/-- `Pop8()`, R56. -/
def State.pop8 (s : State) : Byte × State :=
  ((s.memRead s.sp).1, { (s.memRead s.sp).2 with sp := s.sp + 1 })

/-! ### The record and the decode fault -/

/-- Replace the current record. -/
def State.setRecord (s : State) (r : Record) : State := { s with record := some r }

/-- The record that a decode builds, R84, over the bus history and cycle count that its free scratch bytes depend on. -/
def newRecord (tbl : Table) (op : Byte) (i : Instr) (bus : List BusAccess) (cycles : Nat) : Record where
  op := op
  table := tbl
  len := i.form.cycles
  remaining := i.form.cycles
  i := 0
  lo := Config.unwrittenScratch bus cycles .lo
  hi := Config.unwrittenScratch bus cycles .hi
  n := Config.unwrittenScratch bus cycles .n
  e := Config.unwrittenScratch bus cycles .e
  t := Config.unwrittenScratch bus cycles .t

/-- The row of the opcode table that a record was built from. -/
def Record.instr (r : Record) : Instr := rowOf r.table r.op

/-- TAKING THE ONE EXCEPTION, `raise DecodeFault(opcode, addr)`, R260: the fault slot takes the byte and its address, the
record goes, nothing else changes (PC is already past the byte). Only `resetCore` leaves this state (R267, R282). -/
def State.raiseDecodeFault (s : State) (opcode : Byte) (addr : Word) : State :=
  { s with fault := some { opcode := opcode, addr := addr }, record := none }

/-- `INTERRUPT_HOOK()`, R265: the identity in this hardware. -/
def State.interruptHook (s : State) : State := s

/-- The second half of `Fetch()`, R88: what becomes of the byte `op` read from `addr`. -/
def State.decodeFetched (s : State) (op : Byte) (addr : Word) : State :=
  if s.prefixPending then
    { s with
      prefixPending := false
      record := some (newRecord .prefixed op (decodePrefixed op) s.bus s.cycles) }
  else
    match decodeBase op with
    | .ok i => { s with record := some (newRecord .base op i s.bus s.cycles) }
    | .error _ => s.raiseDecodeFault op addr

/-- `Fetch()`, R88. -/
def State.fetch (s : State) : State :=
  (State.interruptHook s.imm8.2).decodeFetched s.imm8.1 s.pc

/-! ### The frame of one call of `AdvanceMachineCycle`, R85 -/

/-- The IME-scheduled transfer, R89. -/
def State.transferIme (s : State) : State :=
  { s with ime := s.ime || s.imeScheduled, imeScheduled := false }

/-- The model's count of the calls since the last Reset, R283: every call adds 1. It is not the core's state (R269). -/
def State.countCall (s : State) : State := { s with cycles := s.cycles + 1 }

/-- What a call does before the cycle of the record: the transfer, then `rec.i <- rec.i + 1`. The call is counted. -/
def State.beginCycle (s : State) (r : Record) : State :=
  { s.transferIme.countCall with record := some { r with i := r.i + 1 } }

/-- What a call does after the cycle: `rec.remaining <- rec.remaining - 1`, and the fetch when it is 0. Without a record
(an undefined byte was executed) there is nothing to count. -/
def State.endCycle (s : State) : State :=
  match s.record with
  | none => s
  | some r =>
    let s' := s.setRecord { r with remaining := r.remaining - 1 }
    if r.remaining - 1 = 0 then s'.fetch else s'

/-! ### Reset, R280 to R284 -/

/-- The assignments of `Reset()` before its fetch, R280. Memory, the delegate sets and the bus history are not the
core's. -/
def State.resetRegisters (s : State) : State where
  a := 0x01
  f := 0xB0
  b := 0x00
  c := 0x13
  d := 0x00
  e := 0xD8
  h := 0x01
  l := 0x4D
  pc := 0x0100
  sp := 0xFFFE
  ime := false
  imeScheduled := false
  haltMode := false
  stopMode := false
  prefixPending := false
  record := none
  fault := none
  mem := s.mem
  delegatedRead := s.delegatedRead
  delegatedWrite := s.delegatedWrite
  bus := s.bus
  cycles := 0

/-- `Reset()`, R280: the assignments and the initial fetch (R281). It may be called in any state (R282). -/
def State.resetCore (s : State) : State := s.resetRegisters.fetch

/-! ### The observation port, R41 -/

/-- What the port shows. -/
structure Observation where
  pc : Word
  sp : Word
  a : Byte
  f : Byte
  b : Byte
  c : Byte
  d : Byte
  e : Byte
  h : Byte
  l : Byte
  ime : Bool
  imeScheduled : Bool
  haltMode : Bool
  stopMode : Bool
  prefixPending : Bool
  fault : Option DecodeFault
deriving DecidableEq, Repr

/-- A read of the port: it changes nothing (R41), so it is a function of the state. -/
def State.observe (s : State) : Observation where
  pc := s.pc
  sp := s.sp
  a := s.a
  f := s.f
  b := s.b
  c := s.c
  d := s.d
  e := s.e
  h := s.h
  l := s.l
  ime := s.ime
  imeScheduled := s.imeScheduled
  haltMode := s.haltMode
  stopMode := s.stopMode
  prefixPending := s.prefixPending
  fault := s.fault

/-! ### Placing an instruction from outside -/

/-- Put bytes into the backing store at consecutive addresses. -/
def State.placeBytes (s : State) (addr : Word) : List Byte → State
  | [] => s
  | v :: rest => ({ s with mem := Memory.write s.mem addr v }).placeBytes (addr + 1) rest

end Sys2Proof.Machine
end

