-- ==== Sys2Proof/Machine/Operands.lean ====
section
/-! DEFINITION. The operand forms: registers, pairs and conditions (10_state.md, 45_control.md R200), and the cycle lines that read an operand (00_scope.md R11). -/

namespace Sys2Proof.Machine

/-! ### Registers and pairs, R20 to R27 -/

/-- `r[i]`, R26. -/
def State.reg (s : State) : Reg8 → Byte
  | .b => s.b
  | .c => s.c
  | .d => s.d
  | .e => s.e
  | .h => s.h
  | .l => s.l
  | .a => s.a

/-- `r[i] <- v`, R26. -/
def State.setReg (s : State) (r : Reg8) (v : Byte) : State :=
  match r with
  | .b => { s with b := v }
  | .c => { s with c := v }
  | .d => { s with d := v }
  | .e => { s with e := v }
  | .h => { s with h := v }
  | .l => { s with l := v }
  | .a => { s with a := v }

/-- The pair views, R21. -/
def State.af (s : State) : Word := cat16 s.a s.f
def State.bc (s : State) : Word := cat16 s.b s.c
def State.de (s : State) : Word := cat16 s.d s.e
def State.hl (s : State) : Word := cat16 s.h s.l

/-- Writes of a pair, R22. AF drops the low nibble. -/
def State.setAF (s : State) (v : Word) : State := { s with a := hi8 v, f := lo8 v &&& 0xF0#8 }
def State.setBC (s : State) (v : Word) : State := { s with b := hi8 v, c := lo8 v }
def State.setDE (s : State) (v : Word) : State := { s with d := hi8 v, e := lo8 v }
def State.setHL (s : State) (v : Word) : State := { s with h := hi8 v, l := lo8 v }

/-- The operand `dd`, R75. -/
def State.pair (s : State) : Pair → Word
  | .bc => s.bc
  | .de => s.de
  | .hl => s.hl
  | .sp => s.sp

/-- `dd <- v`, R75. -/
def State.setPair (s : State) (p : Pair) (v : Word) : State :=
  match p with
  | .bc => s.setBC v
  | .de => s.setDE v
  | .hl => s.setHL v
  | .sp => { s with sp := v }

/-- The operand `qq`, R76. -/
def State.stackPair (s : State) : StackPair → Word
  | .bc => s.bc
  | .de => s.de
  | .hl => s.hl
  | .af => s.af

/-- `qq <- v`, R76, R134. -/
def State.setStackPair (s : State) (p : StackPair) (v : Word) : State :=
  match p with
  | .bc => s.setBC v
  | .de => s.setDE v
  | .hl => s.setHL v
  | .af => s.setAF v

/-- `Cond(cc)`, R200. -/
def State.cond (s : State) : Cond → Bool
  | .nz => !s.flagZ
  | .z => s.flagZ
  | .nc => !s.flagC
  | .c => s.flagC

/-- The top-page address `cat16(0xFF, n)`, R64. -/
def topPage (n : Byte) : Word := cat16 0xFF#8 n

/-- The restart address of a `ttt` field, R79: `op & 0x38`, R211: `cat16(0x00, t)`. -/
def restartAddress (ttt : BitVec 3) : Word := cat16 0x00#8 (0b00#2 ++ ttt ++ 0b000#3)

/-! ### Cycle lines, R11 -/

/-- What one machine cycle of an instruction does: a function of the record as it stands in that cycle and the state. -/
abbrev Line := Record → State → State

/-- An internal cycle, R11. -/
def idle : Line := fun _ s => s

/-- `n <- Imm8()`. -/
def immN : Line := fun r s => s.imm8.2.setRecord { r with n := s.imm8.1 }

/-- `e <- Imm8()`. -/
def immE : Line := fun r s => s.imm8.2.setRecord { r with e := s.imm8.1 }

/-- `lo <- Imm8()`. -/
def immLo : Line := fun r s => s.imm8.2.setRecord { r with lo := s.imm8.1 }

/-- `hi <- Imm8()`. -/
def immHi : Line := fun r s => s.imm8.2.setRecord { r with hi := s.imm8.1 }

/-- `if not Cond(cc): remaining <- short`, R87, R200: the cycles that remain, this one counted. -/
def shorten (s : State) (cc : Cond) (short : BitVec 3) (r : Record) : Record :=
  if s.cond cc then r else { r with remaining := short }

/-- `lo <- Imm8(); if not Cond(cc): remaining <- short`. -/
def immLoUnless (cc : Cond) (short : BitVec 3) : Line :=
  fun r s => s.imm8.2.setRecord (shorten s cc short { r with lo := s.imm8.1 })

/-- `e <- Imm8(); if not Cond(cc): remaining <- short`. -/
def immEUnless (cc : Cond) (short : BitVec 3) : Line :=
  fun r s => s.imm8.2.setRecord (shorten s cc short { r with e := s.imm8.1 })

/-- `if not Cond(cc): remaining <- short`. -/
def checkCond (cc : Cond) (short : BitVec 3) : Line :=
  fun r s => s.setRecord (shorten s cc short r)

/-- `t <- MemRead(addr, 1)`. The byte that 47_prefixed.md calls `x` across two cycles is this `t` (log 8). -/
def readT (addr : Record → State → Word) : Line :=
  fun r s => (s.memRead (addr r s)).2.setRecord { r with t := (s.memRead (addr r s)).1 }

/-- `MemWrite(addr, 1, v)`. -/
def writeMem (addr : Record → State → Word) (v : Record → State → Byte) : Line :=
  fun r s => s.memWrite (addr r s) (v r s)

/-- `lo <- Pop8()`. -/
def popLo : Line := fun r s => s.pop8.2.setRecord { r with lo := s.pop8.1 }

/-- `hi <- Pop8()`. -/
def popHi : Line := fun r s => s.pop8.2.setRecord { r with hi := s.pop8.1 }

/-- `PC <- cat16(hi, lo)`. -/
def jumpHiLo : Line := fun r s => { s with pc := cat16 r.hi r.lo }

/-- The address HL. -/
def atHL : Record → State → Word := fun _ s => s.hl

/-- The address `cat16(hi, lo)` of a 16-bit immediate. -/
def atNN : Record → State → Word := fun r _ => cat16 r.hi r.lo

/-- Line `c(i)` of a schedule, counted from 1 (R11). -/
def lineAt (lines : List Line) (i : BitVec 3) : Option Line :=
  if i = 0 then none else lines[i.toNat - 1]?

/-- `ExecuteCycle`, R86: the line of the schedule that the record's cycle index names. -/
def runLines (lines : List Line) (s : State) : Result :=
  match s.record with
  | none => .fault .noCurrentRecord
  | some r =>
    match lineAt lines r.i with
    | none => .fault .noScheduledCycle
    | some line => .next (line r s)

end Sys2Proof.Machine
end

