-- ==== Sys2Proof/Machine/Alu16.lean ====
section
/-! DEFINITION. The 16-bit arithmetic instructions, 44_alu16.md R190 to R195. -/

namespace Sys2Proof.Machine

/-! ### Schedules -/

/-- `INC dd`, R190. -/
def linesIncPair (dd : Pair) : List Line := [idle, fun _ s => s.setPair dd (s.pair dd + 1)]

/-- `DEC dd`, R191. -/
def linesDecPair (dd : Pair) : List Line := [idle, fun _ s => s.setPair dd (s.pair dd - 1)]

/-- `ADD HL,dd`, R192. -/
def linesAddHL (dd : Pair) : List Line :=
  [idle, fun _ s => (s.setHL (s.hl + s.pair dd)).addHLFlags s.hl (s.pair dd)]

/-- `ADD SP,e`, R194. -/
def linesAddSPE : List Line :=
  [immE, idle, idle,
   fun r s => ({ s with sp := spPlusE s.sp r.e }).setZNHC false false (spPlusEH s.sp r.e) (spPlusEC s.sp r.e)]

/-- `LD HL,SP+e`, R195. -/
def linesLdHLSPE : List Line :=
  [immE, idle,
   fun r s => (s.setHL (spPlusE s.sp r.e)).setZNHC false false (spPlusEH s.sp r.e) (spPlusEC s.sp r.e)]

/-! ### Meanings -/

/-- `INC BC`, 0x03: R190. -/
def execInc_BC (s : State) : Result := runLines (linesIncPair .bc) s

/-- `ADD HL,BC`, 0x09: R192. -/
def execAdd_HL_BC (s : State) : Result := runLines (linesAddHL .bc) s

/-- `DEC BC`, 0x0B: R191. -/
def execDec_BC (s : State) : Result := runLines (linesDecPair .bc) s

/-- `INC DE`, 0x13: R190. -/
def execInc_DE (s : State) : Result := runLines (linesIncPair .de) s

/-- `ADD HL,DE`, 0x19: R192. -/
def execAdd_HL_DE (s : State) : Result := runLines (linesAddHL .de) s

/-- `DEC DE`, 0x1B: R191. -/
def execDec_DE (s : State) : Result := runLines (linesDecPair .de) s

/-- `INC HL`, 0x23: R190. -/
def execInc_HL (s : State) : Result := runLines (linesIncPair .hl) s

/-- `ADD HL,HL`, 0x29: R192. -/
def execAdd_HL_HL (s : State) : Result := runLines (linesAddHL .hl) s

/-- `DEC HL`, 0x2B: R191. -/
def execDec_HL (s : State) : Result := runLines (linesDecPair .hl) s

/-- `INC SP`, 0x33: R190. -/
def execInc_SP (s : State) : Result := runLines (linesIncPair .sp) s

/-- `ADD HL,SP`, 0x39: R192. -/
def execAdd_HL_SP (s : State) : Result := runLines (linesAddHL .sp) s

/-- `DEC SP`, 0x3B: R191. -/
def execDec_SP (s : State) : Result := runLines (linesDecPair .sp) s

/-- `ADD SP,e`, 0xE8: R194. -/
def execAdd_SP_e (s : State) : Result := runLines linesAddSPE s

/-- `LD HL,SP+e`, 0xF8: R195. -/
def execLd_HL_SPe (s : State) : Result := runLines linesLdHLSPE s

end Sys2Proof.Machine
end

