-- ==== Sys2Proof/Machine/Alu8.lean ====
section
/-! DEFINITION. The 8-bit arithmetic and logic instructions, 43_alu8.md R140 to R178. -/

namespace Sys2Proof.Machine

/-! ### Schedules -/

/-- An accumulator operation on a register: R143, R146, R149, R152, R155, R158, R161, R164. -/
def linesAluR (o : AluOp) (src : Reg8) : List Line := [fun _ s => s.alu o (s.reg src)]

/-- An accumulator operation on the byte at HL: R144, R147, R150, R153, R156, R159, R162, R165. -/
def linesAluM (o : AluOp) : List Line := [readT atHL, fun r s => s.alu o r.t]

/-- An accumulator operation on an immediate byte: R145, R148, R151, R154, R157, R160, R163, R166. -/
def linesAluN (o : AluOp) : List Line := [immN, fun r s => s.alu o r.n]

/-- `INC r`, R167. -/
def linesIncR (dst : Reg8) : List Line := [fun _ s => (s.setReg dst (s.reg dst + 1#8)).incFlags (s.reg dst)]

/-- `INC (HL)`, R168: the read in c1, the write and the flags in c2. -/
def linesIncM : List Line :=
  [readT atHL, fun r s => (writeMem atHL (fun r _ => r.t + 1#8) r s).incFlags r.t, idle]

/-- `DEC r`, R169. -/
def linesDecR (dst : Reg8) : List Line := [fun _ s => (s.setReg dst (s.reg dst - 1#8)).decFlags (s.reg dst)]

/-- `DEC (HL)`, R170. -/
def linesDecM : List Line :=
  [readT atHL, fun r s => (writeMem atHL (fun r _ => r.t - 1#8) r s).decFlags r.t, idle]

/-- `DAA`, R171. -/
def linesDaa : List Line := [fun _ s => s.daa]

/-- `CPL`, R172. -/
def linesCpl : List Line := [fun _ s => s.cpl]

/-- `SCF`, R173. -/
def linesScf : List Line := [fun _ s => s.scf]

/-- `CCF`, R174. -/
def linesCcf : List Line := [fun _ s => s.ccf]

/-- `RLCA`, `RRCA`, `RLA`, `RRA`, R175 to R178: the rotate `o` of A. -/
def linesRotA (o : RotOp) : List Line := [fun _ s => s.rotA o]

/-! ### Meanings -/

/-- `INC B`, 0x04: R167. -/
def execInc_B (s : State) : Result := runLines (linesIncR .b) s

/-- `DEC B`, 0x05: R169. -/
def execDec_B (s : State) : Result := runLines (linesDecR .b) s

/-- `RLCA`, 0x07: R175. -/
def execRlca (s : State) : Result := runLines (linesRotA .rlc) s

/-- `INC C`, 0x0C: R167. -/
def execInc_C (s : State) : Result := runLines (linesIncR .c) s

/-- `DEC C`, 0x0D: R169. -/
def execDec_C (s : State) : Result := runLines (linesDecR .c) s

/-- `RRCA`, 0x0F: R176. -/
def execRrca (s : State) : Result := runLines (linesRotA .rrc) s

/-- `INC D`, 0x14: R167. -/
def execInc_D (s : State) : Result := runLines (linesIncR .d) s

/-- `DEC D`, 0x15: R169. -/
def execDec_D (s : State) : Result := runLines (linesDecR .d) s

/-- `RLA`, 0x17: R177. -/
def execRla (s : State) : Result := runLines (linesRotA .rl) s

/-- `INC E`, 0x1C: R167. -/
def execInc_E (s : State) : Result := runLines (linesIncR .e) s

/-- `DEC E`, 0x1D: R169. -/
def execDec_E (s : State) : Result := runLines (linesDecR .e) s

/-- `RRA`, 0x1F: R178. -/
def execRra (s : State) : Result := runLines (linesRotA .rr) s

/-- `INC H`, 0x24: R167. -/
def execInc_H (s : State) : Result := runLines (linesIncR .h) s

/-- `DEC H`, 0x25: R169. -/
def execDec_H (s : State) : Result := runLines (linesDecR .h) s

/-- `DAA`, 0x27: R171. -/
def execDaa (s : State) : Result := runLines linesDaa s

/-- `INC L`, 0x2C: R167. -/
def execInc_L (s : State) : Result := runLines (linesIncR .l) s

/-- `DEC L`, 0x2D: R169. -/
def execDec_L (s : State) : Result := runLines (linesDecR .l) s

/-- `CPL`, 0x2F: R172. -/
def execCpl (s : State) : Result := runLines linesCpl s

/-- `INC (HL)`, 0x34: R168. -/
def execInc_mHL (s : State) : Result := runLines linesIncM s

/-- `DEC (HL)`, 0x35: R170. -/
def execDec_mHL (s : State) : Result := runLines linesDecM s

/-- `SCF`, 0x37: R173. -/
def execScf (s : State) : Result := runLines linesScf s

/-- `INC A`, 0x3C: R167. -/
def execInc_A (s : State) : Result := runLines (linesIncR .a) s

/-- `DEC A`, 0x3D: R169. -/
def execDec_A (s : State) : Result := runLines (linesDecR .a) s

/-- `CCF`, 0x3F: R174. -/
def execCcf (s : State) : Result := runLines linesCcf s

/-- `ADD A,B`, 0x80: R143. -/
def execAdd_A_B (s : State) : Result := runLines (linesAluR .add .b) s

/-- `ADD A,C`, 0x81: R143. -/
def execAdd_A_C (s : State) : Result := runLines (linesAluR .add .c) s

/-- `ADD A,D`, 0x82: R143. -/
def execAdd_A_D (s : State) : Result := runLines (linesAluR .add .d) s

/-- `ADD A,E`, 0x83: R143. -/
def execAdd_A_E (s : State) : Result := runLines (linesAluR .add .e) s

/-- `ADD A,H`, 0x84: R143. -/
def execAdd_A_H (s : State) : Result := runLines (linesAluR .add .h) s

/-- `ADD A,L`, 0x85: R143. -/
def execAdd_A_L (s : State) : Result := runLines (linesAluR .add .l) s

/-- `ADD A,(HL)`, 0x86: R144. -/
def execAdd_A_mHL (s : State) : Result := runLines (linesAluM .add) s

/-- `ADD A,A`, 0x87: R143. -/
def execAdd_A_A (s : State) : Result := runLines (linesAluR .add .a) s

/-- `ADC A,B`, 0x88: R146. -/
def execAdc_A_B (s : State) : Result := runLines (linesAluR .adc .b) s

/-- `ADC A,C`, 0x89: R146. -/
def execAdc_A_C (s : State) : Result := runLines (linesAluR .adc .c) s

/-- `ADC A,D`, 0x8A: R146. -/
def execAdc_A_D (s : State) : Result := runLines (linesAluR .adc .d) s

/-- `ADC A,E`, 0x8B: R146. -/
def execAdc_A_E (s : State) : Result := runLines (linesAluR .adc .e) s

/-- `ADC A,H`, 0x8C: R146. -/
def execAdc_A_H (s : State) : Result := runLines (linesAluR .adc .h) s

/-- `ADC A,L`, 0x8D: R146. -/
def execAdc_A_L (s : State) : Result := runLines (linesAluR .adc .l) s

/-- `ADC A,(HL)`, 0x8E: R147. -/
def execAdc_A_mHL (s : State) : Result := runLines (linesAluM .adc) s

/-- `ADC A,A`, 0x8F: R146. -/
def execAdc_A_A (s : State) : Result := runLines (linesAluR .adc .a) s

/-- `SUB B`, 0x90: R149. -/
def execSub_B (s : State) : Result := runLines (linesAluR .sub .b) s

/-- `SUB C`, 0x91: R149. -/
def execSub_C (s : State) : Result := runLines (linesAluR .sub .c) s

/-- `SUB D`, 0x92: R149. -/
def execSub_D (s : State) : Result := runLines (linesAluR .sub .d) s

/-- `SUB E`, 0x93: R149. -/
def execSub_E (s : State) : Result := runLines (linesAluR .sub .e) s

/-- `SUB H`, 0x94: R149. -/
def execSub_H (s : State) : Result := runLines (linesAluR .sub .h) s

/-- `SUB L`, 0x95: R149. -/
def execSub_L (s : State) : Result := runLines (linesAluR .sub .l) s

/-- `SUB (HL)`, 0x96: R150. -/
def execSub_mHL (s : State) : Result := runLines (linesAluM .sub) s

/-- `SUB A`, 0x97: R149. -/
def execSub_A (s : State) : Result := runLines (linesAluR .sub .a) s

/-- `SBC A,B`, 0x98: R152. -/
def execSbc_A_B (s : State) : Result := runLines (linesAluR .sbc .b) s

/-- `SBC A,C`, 0x99: R152. -/
def execSbc_A_C (s : State) : Result := runLines (linesAluR .sbc .c) s

/-- `SBC A,D`, 0x9A: R152. -/
def execSbc_A_D (s : State) : Result := runLines (linesAluR .sbc .d) s

/-- `SBC A,E`, 0x9B: R152. -/
def execSbc_A_E (s : State) : Result := runLines (linesAluR .sbc .e) s

/-- `SBC A,H`, 0x9C: R152. -/
def execSbc_A_H (s : State) : Result := runLines (linesAluR .sbc .h) s

/-- `SBC A,L`, 0x9D: R152. -/
def execSbc_A_L (s : State) : Result := runLines (linesAluR .sbc .l) s

/-- `SBC A,(HL)`, 0x9E: R153. -/
def execSbc_A_mHL (s : State) : Result := runLines (linesAluM .sbc) s

/-- `SBC A,A`, 0x9F: R152. -/
def execSbc_A_A (s : State) : Result := runLines (linesAluR .sbc .a) s

/-- `AND B`, 0xA0: R155. -/
def execAnd_B (s : State) : Result := runLines (linesAluR .and .b) s

/-- `AND C`, 0xA1: R155. -/
def execAnd_C (s : State) : Result := runLines (linesAluR .and .c) s

/-- `AND D`, 0xA2: R155. -/
def execAnd_D (s : State) : Result := runLines (linesAluR .and .d) s

/-- `AND E`, 0xA3: R155. -/
def execAnd_E (s : State) : Result := runLines (linesAluR .and .e) s

/-- `AND H`, 0xA4: R155. -/
def execAnd_H (s : State) : Result := runLines (linesAluR .and .h) s

/-- `AND L`, 0xA5: R155. -/
def execAnd_L (s : State) : Result := runLines (linesAluR .and .l) s

/-- `AND (HL)`, 0xA6: R156. -/
def execAnd_mHL (s : State) : Result := runLines (linesAluM .and) s

/-- `AND A`, 0xA7: R155. -/
def execAnd_A (s : State) : Result := runLines (linesAluR .and .a) s

/-- `XOR B`, 0xA8: R158. -/
def execXor_B (s : State) : Result := runLines (linesAluR .xor .b) s

/-- `XOR C`, 0xA9: R158. -/
def execXor_C (s : State) : Result := runLines (linesAluR .xor .c) s

/-- `XOR D`, 0xAA: R158. -/
def execXor_D (s : State) : Result := runLines (linesAluR .xor .d) s

/-- `XOR E`, 0xAB: R158. -/
def execXor_E (s : State) : Result := runLines (linesAluR .xor .e) s

/-- `XOR H`, 0xAC: R158. -/
def execXor_H (s : State) : Result := runLines (linesAluR .xor .h) s

/-- `XOR L`, 0xAD: R158. -/
def execXor_L (s : State) : Result := runLines (linesAluR .xor .l) s

/-- `XOR (HL)`, 0xAE: R159. -/
def execXor_mHL (s : State) : Result := runLines (linesAluM .xor) s

/-- `XOR A`, 0xAF: R158. -/
def execXor_A (s : State) : Result := runLines (linesAluR .xor .a) s

/-- `OR B`, 0xB0: R161. -/
def execOr_B (s : State) : Result := runLines (linesAluR .or .b) s

/-- `OR C`, 0xB1: R161. -/
def execOr_C (s : State) : Result := runLines (linesAluR .or .c) s

/-- `OR D`, 0xB2: R161. -/
def execOr_D (s : State) : Result := runLines (linesAluR .or .d) s

/-- `OR E`, 0xB3: R161. -/
def execOr_E (s : State) : Result := runLines (linesAluR .or .e) s

/-- `OR H`, 0xB4: R161. -/
def execOr_H (s : State) : Result := runLines (linesAluR .or .h) s

/-- `OR L`, 0xB5: R161. -/
def execOr_L (s : State) : Result := runLines (linesAluR .or .l) s

/-- `OR (HL)`, 0xB6: R162. -/
def execOr_mHL (s : State) : Result := runLines (linesAluM .or) s

/-- `OR A`, 0xB7: R161. -/
def execOr_A (s : State) : Result := runLines (linesAluR .or .a) s

/-- `CP B`, 0xB8: R164. -/
def execCp_B (s : State) : Result := runLines (linesAluR .cp .b) s

/-- `CP C`, 0xB9: R164. -/
def execCp_C (s : State) : Result := runLines (linesAluR .cp .c) s

/-- `CP D`, 0xBA: R164. -/
def execCp_D (s : State) : Result := runLines (linesAluR .cp .d) s

/-- `CP E`, 0xBB: R164. -/
def execCp_E (s : State) : Result := runLines (linesAluR .cp .e) s

/-- `CP H`, 0xBC: R164. -/
def execCp_H (s : State) : Result := runLines (linesAluR .cp .h) s

/-- `CP L`, 0xBD: R164. -/
def execCp_L (s : State) : Result := runLines (linesAluR .cp .l) s

/-- `CP (HL)`, 0xBE: R165. -/
def execCp_mHL (s : State) : Result := runLines (linesAluM .cp) s

/-- `CP A`, 0xBF: R164. -/
def execCp_A (s : State) : Result := runLines (linesAluR .cp .a) s

/-- `ADD A,n`, 0xC6: R145. -/
def execAdd_A_n (s : State) : Result := runLines (linesAluN .add) s

/-- `ADC A,n`, 0xCE: R148. -/
def execAdc_A_n (s : State) : Result := runLines (linesAluN .adc) s

/-- `SUB n`, 0xD6: R151. -/
def execSub_n (s : State) : Result := runLines (linesAluN .sub) s

/-- `SBC A,n`, 0xDE: R154. -/
def execSbc_A_n (s : State) : Result := runLines (linesAluN .sbc) s

/-- `AND n`, 0xE6: R157. -/
def execAnd_n (s : State) : Result := runLines (linesAluN .and) s

/-- `XOR n`, 0xEE: R160. -/
def execXor_n (s : State) : Result := runLines (linesAluN .xor) s

/-- `OR n`, 0xF6: R163. -/
def execOr_n (s : State) : Result := runLines (linesAluN .or) s

/-- `CP n`, 0xFE: R166. -/
def execCp_n (s : State) : Result := runLines (linesAluN .cp) s

end Sys2Proof.Machine
end

