-- ==== Sys2Proof/Machine/Control.lean ====
section
/-! DEFINITION. The control transfer instructions, 45_control.md R199 to R211. -/

namespace Sys2Proof.Machine

/-! ### Schedules -/

/-- `PC <- (PC + sext_16(e)) mod 65536`, R204. -/
def jumpRelative : Line := fun r s => { s with pc := s.pc + sext16 r.e }

/-- `Push8(hi8(PC))`, R206. -/
def pushPCHi : Line := fun _ s => s.push8 (hi8 s.pc)

/-- `Push8(lo8(PC))`, R206. -/
def pushPCLo : Line := fun _ s => s.push8 (lo8 s.pc)

/-- `JP nn`, R201. -/
def linesJp : List Line := [immLo, immHi, idle, jumpHiLo]

/-- `JP cc,nn`, R202. -/
def linesJpCc (cc : Cond) : List Line := [immLoUnless cc 3, immHi, idle, jumpHiLo]

/-- `JP HL`, R203. -/
def linesJpHL : List Line := [fun _ s => { s with pc := s.hl }]

/-- `JR e`, R204. -/
def linesJr : List Line := [immE, idle, jumpRelative]

/-- `JR cc,e`, R205. -/
def linesJrCc (cc : Cond) : List Line := [immEUnless cc 2, idle, jumpRelative]

/-- `CALL nn`, R206. -/
def linesCall : List Line := [immLo, immHi, idle, pushPCHi, pushPCLo, jumpHiLo]

/-- `CALL cc,nn`, R207. -/
def linesCallCc (cc : Cond) : List Line := [immLoUnless cc 3, immHi, idle, pushPCHi, pushPCLo, jumpHiLo]

/-- `RET`, R208. -/
def linesRet : List Line := [popLo, popHi, idle, jumpHiLo]

/-- `RET cc`, R209. -/
def linesRetCc (cc : Cond) : List Line := [checkCond cc 2, idle, popLo, popHi, jumpHiLo]

/-- `RETI`, R210: IME at once, not through IME-scheduled. -/
def linesReti : List Line := [popLo, popHi, idle, fun r s => { jumpHiLo r s with ime := true }]

/-- `RST t`, R211. -/
def linesRst (ttt : BitVec 3) : List Line :=
  [idle, pushPCHi, pushPCLo, fun _ s => { s with pc := restartAddress ttt }]

/-! ### Meanings -/

/-- `JR e`, 0x18: R204. -/
def execJr_e (s : State) : Result := runLines linesJr s

/-- `JR NZ,e`, 0x20: R205. -/
def execJr_NZ_e (s : State) : Result := runLines (linesJrCc .nz) s

/-- `JR Z,e`, 0x28: R205. -/
def execJr_Z_e (s : State) : Result := runLines (linesJrCc .z) s

/-- `JR NC,e`, 0x30: R205. -/
def execJr_NC_e (s : State) : Result := runLines (linesJrCc .nc) s

/-- `JR C,e`, 0x38: R205. -/
def execJr_C_e (s : State) : Result := runLines (linesJrCc .c) s

/-- `RET NZ`, 0xC0: R209. -/
def execRet_NZ (s : State) : Result := runLines (linesRetCc .nz) s

/-- `JP NZ,nn`, 0xC2: R202. -/
def execJp_NZ_nn (s : State) : Result := runLines (linesJpCc .nz) s

/-- `JP nn`, 0xC3: R201. -/
def execJp_nn (s : State) : Result := runLines linesJp s

/-- `CALL NZ,nn`, 0xC4: R207. -/
def execCall_NZ_nn (s : State) : Result := runLines (linesCallCc .nz) s

/-- `RST 0x00`, 0xC7: R211. -/
def execRst_00 (s : State) : Result := runLines (linesRst 0) s

/-- `RET Z`, 0xC8: R209. -/
def execRet_Z (s : State) : Result := runLines (linesRetCc .z) s

/-- `RET`, 0xC9: R208. -/
def execRet (s : State) : Result := runLines linesRet s

/-- `JP Z,nn`, 0xCA: R202. -/
def execJp_Z_nn (s : State) : Result := runLines (linesJpCc .z) s

/-- `CALL Z,nn`, 0xCC: R207. -/
def execCall_Z_nn (s : State) : Result := runLines (linesCallCc .z) s

/-- `CALL nn`, 0xCD: R206. -/
def execCall_nn (s : State) : Result := runLines linesCall s

/-- `RST 0x08`, 0xCF: R211. -/
def execRst_08 (s : State) : Result := runLines (linesRst 1) s

/-- `RET NC`, 0xD0: R209. -/
def execRet_NC (s : State) : Result := runLines (linesRetCc .nc) s

/-- `JP NC,nn`, 0xD2: R202. -/
def execJp_NC_nn (s : State) : Result := runLines (linesJpCc .nc) s

/-- `CALL NC,nn`, 0xD4: R207. -/
def execCall_NC_nn (s : State) : Result := runLines (linesCallCc .nc) s

/-- `RST 0x10`, 0xD7: R211. -/
def execRst_10 (s : State) : Result := runLines (linesRst 2) s

/-- `RET C`, 0xD8: R209. -/
def execRet_C (s : State) : Result := runLines (linesRetCc .c) s

/-- `RETI`, 0xD9: R210. -/
def execReti (s : State) : Result := runLines linesReti s

/-- `JP C,nn`, 0xDA: R202. -/
def execJp_C_nn (s : State) : Result := runLines (linesJpCc .c) s

/-- `CALL C,nn`, 0xDC: R207. -/
def execCall_C_nn (s : State) : Result := runLines (linesCallCc .c) s

/-- `RST 0x18`, 0xDF: R211. -/
def execRst_18 (s : State) : Result := runLines (linesRst 3) s

/-- `RST 0x20`, 0xE7: R211. -/
def execRst_20 (s : State) : Result := runLines (linesRst 4) s

/-- `JP HL`, 0xE9: R203. -/
def execJp_HL (s : State) : Result := runLines linesJpHL s

/-- `RST 0x28`, 0xEF: R211. -/
def execRst_28 (s : State) : Result := runLines (linesRst 5) s

/-- `RST 0x30`, 0xF7: R211. -/
def execRst_30 (s : State) : Result := runLines (linesRst 6) s

/-- `RST 0x38`, 0xFF: R211. -/
def execRst_38 (s : State) : Result := runLines (linesRst 7) s

end Sys2Proof.Machine
end

