-- ==== Sys2Proof/Machine/Load16.lean ====
section
/-! DEFINITION. The 16-bit loads and the stack operations, 42_load16_stack.md R130 to R134. -/

namespace Sys2Proof.Machine

/-! ### Schedules -/

/-- `LD dd,nn`, R130: the pair is written whole in c3. -/
def linesLdPairNN (dd : Pair) : List Line := [immLo, immHi, fun r s => s.setPair dd (cat16 r.hi r.lo)]

/-- `LD (nn),SP`, R131: low byte at nn, high byte at nn + 1. -/
def linesLdNNSP : List Line :=
  [immLo, immHi, writeMem atNN (fun _ s => lo8 s.sp), writeMem (fun r s => atNN r s + 1) (fun _ s => hi8 s.sp), idle]

/-- `LD SP,HL`, R132. -/
def linesLdSPHL : List Line := [idle, fun _ s => { s with sp := s.hl }]

/-- `PUSH qq`, R133: high byte first. -/
def linesPush (qq : StackPair) : List Line :=
  [idle, fun _ s => s.push8 (hi8 (s.stackPair qq)), fun _ s => s.push8 (lo8 (s.stackPair qq)), idle]

/-- `POP qq`, R134: low byte first. -/
def linesPop (qq : StackPair) : List Line := [popLo, popHi, fun r s => s.setStackPair qq (cat16 r.hi r.lo)]

/-! ### Meanings -/

/-- `LD BC,nn`, 0x01: R130. -/
def execLd_BC_nn (s : State) : Result := runLines (linesLdPairNN .bc) s

/-- `LD (nn),SP`, 0x08: R131. -/
def execLd_mnn_SP (s : State) : Result := runLines linesLdNNSP s

/-- `LD DE,nn`, 0x11: R130. -/
def execLd_DE_nn (s : State) : Result := runLines (linesLdPairNN .de) s

/-- `LD HL,nn`, 0x21: R130. -/
def execLd_HL_nn (s : State) : Result := runLines (linesLdPairNN .hl) s

/-- `LD SP,nn`, 0x31: R130. -/
def execLd_SP_nn (s : State) : Result := runLines (linesLdPairNN .sp) s

/-- `POP BC`, 0xC1: R134. -/
def execPop_BC (s : State) : Result := runLines (linesPop .bc) s

/-- `PUSH BC`, 0xC5: R133. -/
def execPush_BC (s : State) : Result := runLines (linesPush .bc) s

/-- `POP DE`, 0xD1: R134. -/
def execPop_DE (s : State) : Result := runLines (linesPop .de) s

/-- `PUSH DE`, 0xD5: R133. -/
def execPush_DE (s : State) : Result := runLines (linesPush .de) s

/-- `POP HL`, 0xE1: R134. -/
def execPop_HL (s : State) : Result := runLines (linesPop .hl) s

/-- `PUSH HL`, 0xE5: R133. -/
def execPush_HL (s : State) : Result := runLines (linesPush .hl) s

/-- `POP AF`, 0xF1: R134. -/
def execPop_AF (s : State) : Result := runLines (linesPop .af) s

/-- `PUSH AF`, 0xF5: R133. -/
def execPush_AF (s : State) : Result := runLines (linesPush .af) s

/-- `LD SP,HL`, 0xF9: R132. -/
def execLd_SP_HL (s : State) : Result := runLines linesLdSPHL s

end Sys2Proof.Machine
end

