-- ==== Sys2Proof/Machine/Load8.lean ====
section
/-! DEFINITION. The 8-bit loads, 41_load8.md R100 to R119: the schedule of each form, then one meaning per instruction. -/

namespace Sys2Proof.Machine

/-! ### Schedules -/

/-- `LD r,r'`, R101. -/
def linesLdRR (dst src : Reg8) : List Line := [fun _ s => s.setReg dst (s.reg src)]

/-- `LD r,n`, R102. -/
def linesLdRN (dst : Reg8) : List Line := [immN, fun r s => s.setReg dst r.n]

/-- `LD r,(HL)`, R103. -/
def linesLdRM (dst : Reg8) : List Line := [readT atHL, fun r s => s.setReg dst r.t]

/-- `LD (HL),r`, R104. -/
def linesLdMR (src : Reg8) : List Line := [writeMem atHL (fun _ s => s.reg src), idle]

/-- `LD (HL),n`, R105. -/
def linesLdMN : List Line := [immN, writeMem atHL (fun r _ => r.n), idle]

/-- The last cycle of a load of A from memory: `A <- t`. -/
def loadA : Line := fun r s => { s with a := r.t }

/-- The byte a store of A writes. -/
def theA : Record → State → Byte := fun _ s => s.a

/-- `LD A,(BC)`, R106. -/
def linesLdABC : List Line := [readT (fun _ s => s.bc), loadA]

/-- `LD A,(DE)`, R107. -/
def linesLdADE : List Line := [readT (fun _ s => s.de), loadA]

/-- `LD (BC),A`, R108. -/
def linesLdBCA : List Line := [writeMem (fun _ s => s.bc) theA, idle]

/-- `LD (DE),A`, R109. -/
def linesLdDEA : List Line := [writeMem (fun _ s => s.de) theA, idle]

/-- `LD A,(nn)`, R110. -/
def linesLdANN : List Line := [immLo, immHi, readT atNN, loadA]

/-- `LD (nn),A`, R111. -/
def linesLdNNA : List Line := [immLo, immHi, writeMem atNN theA, idle]

/-- `LDH A,(n)`, R112. -/
def linesLdhAN : List Line := [immN, readT (fun r _ => topPage r.n), loadA]

/-- `LDH (n),A`, R113. -/
def linesLdhNA : List Line := [immN, writeMem (fun r _ => topPage r.n) theA, idle]

/-- `LD A,(C)`, R114. -/
def linesLdAC : List Line := [readT (fun _ s => topPage s.c), loadA]

/-- `LD (C),A`, R115. -/
def linesLdCA : List Line := [writeMem (fun _ s => topPage s.c) theA, idle]

/-- `LD A,(HL+)`, R116: the access and `HL <- HL + 1` in c1. -/
def linesLdAHLI : List Line := [fun r s => (readT atHL r s).setHL (s.hl + 1), loadA]

/-- `LD A,(HL-)`, R117. -/
def linesLdAHLD : List Line := [fun r s => (readT atHL r s).setHL (s.hl - 1), loadA]

/-- `LD (HL+),A`, R118. -/
def linesLdHLIA : List Line := [fun r s => (writeMem atHL theA r s).setHL (s.hl + 1), idle]

/-- `LD (HL-),A`, R119. -/
def linesLdHLDA : List Line := [fun r s => (writeMem atHL theA r s).setHL (s.hl - 1), idle]

/-! ### Meanings -/

/-- `LD (BC),A`, 0x02: R108. -/
def execLd_mBC_A (s : State) : Result := runLines linesLdBCA s

/-- `LD B,n`, 0x06: R102. -/
def execLd_B_n (s : State) : Result := runLines (linesLdRN .b) s

/-- `LD A,(BC)`, 0x0A: R106. -/
def execLd_A_mBC (s : State) : Result := runLines linesLdABC s

/-- `LD C,n`, 0x0E: R102. -/
def execLd_C_n (s : State) : Result := runLines (linesLdRN .c) s

/-- `LD (DE),A`, 0x12: R109. -/
def execLd_mDE_A (s : State) : Result := runLines linesLdDEA s

/-- `LD D,n`, 0x16: R102. -/
def execLd_D_n (s : State) : Result := runLines (linesLdRN .d) s

/-- `LD A,(DE)`, 0x1A: R107. -/
def execLd_A_mDE (s : State) : Result := runLines linesLdADE s

/-- `LD E,n`, 0x1E: R102. -/
def execLd_E_n (s : State) : Result := runLines (linesLdRN .e) s

/-- `LD (HL+),A`, 0x22: R118. -/
def execLd_mHLi_A (s : State) : Result := runLines linesLdHLIA s

/-- `LD H,n`, 0x26: R102. -/
def execLd_H_n (s : State) : Result := runLines (linesLdRN .h) s

/-- `LD A,(HL+)`, 0x2A: R116. -/
def execLd_A_mHLi (s : State) : Result := runLines linesLdAHLI s

/-- `LD L,n`, 0x2E: R102. -/
def execLd_L_n (s : State) : Result := runLines (linesLdRN .l) s

/-- `LD (HL-),A`, 0x32: R119. -/
def execLd_mHLd_A (s : State) : Result := runLines linesLdHLDA s

/-- `LD (HL),n`, 0x36: R105. -/
def execLd_mHL_n (s : State) : Result := runLines linesLdMN s

/-- `LD A,(HL-)`, 0x3A: R117. -/
def execLd_A_mHLd (s : State) : Result := runLines linesLdAHLD s

/-- `LD A,n`, 0x3E: R102. -/
def execLd_A_n (s : State) : Result := runLines (linesLdRN .a) s

/-- `LD B,B`, 0x40: R101. -/
def execLd_B_B (s : State) : Result := runLines (linesLdRR .b .b) s

/-- `LD B,C`, 0x41: R101. -/
def execLd_B_C (s : State) : Result := runLines (linesLdRR .b .c) s

/-- `LD B,D`, 0x42: R101. -/
def execLd_B_D (s : State) : Result := runLines (linesLdRR .b .d) s

/-- `LD B,E`, 0x43: R101. -/
def execLd_B_E (s : State) : Result := runLines (linesLdRR .b .e) s

/-- `LD B,H`, 0x44: R101. -/
def execLd_B_H (s : State) : Result := runLines (linesLdRR .b .h) s

/-- `LD B,L`, 0x45: R101. -/
def execLd_B_L (s : State) : Result := runLines (linesLdRR .b .l) s

/-- `LD B,(HL)`, 0x46: R103. -/
def execLd_B_mHL (s : State) : Result := runLines (linesLdRM .b) s

/-- `LD B,A`, 0x47: R101. -/
def execLd_B_A (s : State) : Result := runLines (linesLdRR .b .a) s

/-- `LD C,B`, 0x48: R101. -/
def execLd_C_B (s : State) : Result := runLines (linesLdRR .c .b) s

/-- `LD C,C`, 0x49: R101. -/
def execLd_C_C (s : State) : Result := runLines (linesLdRR .c .c) s

/-- `LD C,D`, 0x4A: R101. -/
def execLd_C_D (s : State) : Result := runLines (linesLdRR .c .d) s

/-- `LD C,E`, 0x4B: R101. -/
def execLd_C_E (s : State) : Result := runLines (linesLdRR .c .e) s

/-- `LD C,H`, 0x4C: R101. -/
def execLd_C_H (s : State) : Result := runLines (linesLdRR .c .h) s

/-- `LD C,L`, 0x4D: R101. -/
def execLd_C_L (s : State) : Result := runLines (linesLdRR .c .l) s

/-- `LD C,(HL)`, 0x4E: R103. -/
def execLd_C_mHL (s : State) : Result := runLines (linesLdRM .c) s

/-- `LD C,A`, 0x4F: R101. -/
def execLd_C_A (s : State) : Result := runLines (linesLdRR .c .a) s

/-- `LD D,B`, 0x50: R101. -/
def execLd_D_B (s : State) : Result := runLines (linesLdRR .d .b) s

/-- `LD D,C`, 0x51: R101. -/
def execLd_D_C (s : State) : Result := runLines (linesLdRR .d .c) s

/-- `LD D,D`, 0x52: R101. -/
def execLd_D_D (s : State) : Result := runLines (linesLdRR .d .d) s

/-- `LD D,E`, 0x53: R101. -/
def execLd_D_E (s : State) : Result := runLines (linesLdRR .d .e) s

/-- `LD D,H`, 0x54: R101. -/
def execLd_D_H (s : State) : Result := runLines (linesLdRR .d .h) s

/-- `LD D,L`, 0x55: R101. -/
def execLd_D_L (s : State) : Result := runLines (linesLdRR .d .l) s

/-- `LD D,(HL)`, 0x56: R103. -/
def execLd_D_mHL (s : State) : Result := runLines (linesLdRM .d) s

/-- `LD D,A`, 0x57: R101. -/
def execLd_D_A (s : State) : Result := runLines (linesLdRR .d .a) s

/-- `LD E,B`, 0x58: R101. -/
def execLd_E_B (s : State) : Result := runLines (linesLdRR .e .b) s

/-- `LD E,C`, 0x59: R101. -/
def execLd_E_C (s : State) : Result := runLines (linesLdRR .e .c) s

/-- `LD E,D`, 0x5A: R101. -/
def execLd_E_D (s : State) : Result := runLines (linesLdRR .e .d) s

/-- `LD E,E`, 0x5B: R101. -/
def execLd_E_E (s : State) : Result := runLines (linesLdRR .e .e) s

/-- `LD E,H`, 0x5C: R101. -/
def execLd_E_H (s : State) : Result := runLines (linesLdRR .e .h) s

/-- `LD E,L`, 0x5D: R101. -/
def execLd_E_L (s : State) : Result := runLines (linesLdRR .e .l) s

/-- `LD E,(HL)`, 0x5E: R103. -/
def execLd_E_mHL (s : State) : Result := runLines (linesLdRM .e) s

/-- `LD E,A`, 0x5F: R101. -/
def execLd_E_A (s : State) : Result := runLines (linesLdRR .e .a) s

/-- `LD H,B`, 0x60: R101. -/
def execLd_H_B (s : State) : Result := runLines (linesLdRR .h .b) s

/-- `LD H,C`, 0x61: R101. -/
def execLd_H_C (s : State) : Result := runLines (linesLdRR .h .c) s

/-- `LD H,D`, 0x62: R101. -/
def execLd_H_D (s : State) : Result := runLines (linesLdRR .h .d) s

/-- `LD H,E`, 0x63: R101. -/
def execLd_H_E (s : State) : Result := runLines (linesLdRR .h .e) s

/-- `LD H,H`, 0x64: R101. -/
def execLd_H_H (s : State) : Result := runLines (linesLdRR .h .h) s

/-- `LD H,L`, 0x65: R101. -/
def execLd_H_L (s : State) : Result := runLines (linesLdRR .h .l) s

/-- `LD H,(HL)`, 0x66: R103. -/
def execLd_H_mHL (s : State) : Result := runLines (linesLdRM .h) s

/-- `LD H,A`, 0x67: R101. -/
def execLd_H_A (s : State) : Result := runLines (linesLdRR .h .a) s

/-- `LD L,B`, 0x68: R101. -/
def execLd_L_B (s : State) : Result := runLines (linesLdRR .l .b) s

/-- `LD L,C`, 0x69: R101. -/
def execLd_L_C (s : State) : Result := runLines (linesLdRR .l .c) s

/-- `LD L,D`, 0x6A: R101. -/
def execLd_L_D (s : State) : Result := runLines (linesLdRR .l .d) s

/-- `LD L,E`, 0x6B: R101. -/
def execLd_L_E (s : State) : Result := runLines (linesLdRR .l .e) s

/-- `LD L,H`, 0x6C: R101. -/
def execLd_L_H (s : State) : Result := runLines (linesLdRR .l .h) s

/-- `LD L,L`, 0x6D: R101. -/
def execLd_L_L (s : State) : Result := runLines (linesLdRR .l .l) s

/-- `LD L,(HL)`, 0x6E: R103. -/
def execLd_L_mHL (s : State) : Result := runLines (linesLdRM .l) s

/-- `LD L,A`, 0x6F: R101. -/
def execLd_L_A (s : State) : Result := runLines (linesLdRR .l .a) s

/-- `LD (HL),B`, 0x70: R104. -/
def execLd_mHL_B (s : State) : Result := runLines (linesLdMR .b) s

/-- `LD (HL),C`, 0x71: R104. -/
def execLd_mHL_C (s : State) : Result := runLines (linesLdMR .c) s

/-- `LD (HL),D`, 0x72: R104. -/
def execLd_mHL_D (s : State) : Result := runLines (linesLdMR .d) s

/-- `LD (HL),E`, 0x73: R104. -/
def execLd_mHL_E (s : State) : Result := runLines (linesLdMR .e) s

/-- `LD (HL),H`, 0x74: R104. -/
def execLd_mHL_H (s : State) : Result := runLines (linesLdMR .h) s

/-- `LD (HL),L`, 0x75: R104. -/
def execLd_mHL_L (s : State) : Result := runLines (linesLdMR .l) s

/-- `LD (HL),A`, 0x77: R104. -/
def execLd_mHL_A (s : State) : Result := runLines (linesLdMR .a) s

/-- `LD A,B`, 0x78: R101. -/
def execLd_A_B (s : State) : Result := runLines (linesLdRR .a .b) s

/-- `LD A,C`, 0x79: R101. -/
def execLd_A_C (s : State) : Result := runLines (linesLdRR .a .c) s

/-- `LD A,D`, 0x7A: R101. -/
def execLd_A_D (s : State) : Result := runLines (linesLdRR .a .d) s

/-- `LD A,E`, 0x7B: R101. -/
def execLd_A_E (s : State) : Result := runLines (linesLdRR .a .e) s

/-- `LD A,H`, 0x7C: R101. -/
def execLd_A_H (s : State) : Result := runLines (linesLdRR .a .h) s

/-- `LD A,L`, 0x7D: R101. -/
def execLd_A_L (s : State) : Result := runLines (linesLdRR .a .l) s

/-- `LD A,(HL)`, 0x7E: R103. -/
def execLd_A_mHL (s : State) : Result := runLines (linesLdRM .a) s

/-- `LD A,A`, 0x7F: R101. -/
def execLd_A_A (s : State) : Result := runLines (linesLdRR .a .a) s

/-- `LDH (n),A`, 0xE0: R113. -/
def execLdh_mn_A (s : State) : Result := runLines linesLdhNA s

/-- `LD (C),A`, 0xE2: R115. -/
def execLd_mC_A (s : State) : Result := runLines linesLdCA s

/-- `LD (nn),A`, 0xEA: R111. -/
def execLd_mnn_A (s : State) : Result := runLines linesLdNNA s

/-- `LDH A,(n)`, 0xF0: R112. -/
def execLdh_A_mn (s : State) : Result := runLines linesLdhAN s

/-- `LD A,(C)`, 0xF2: R114. -/
def execLd_A_mC (s : State) : Result := runLines linesLdAC s

/-- `LD A,(nn)`, 0xFA: R110. -/
def execLd_A_mnn (s : State) : Result := runLines linesLdANN s

end Sys2Proof.Machine
end

