-- ==== Sys2Proof/Machine/Prefixed.lean ====
section
/-! DEFINITION. The prefixed instructions, 47_prefixed.md R230 to R252. -/

namespace Sys2Proof.Machine

/-! ### Schedules -/

/-- A rotate or shift of a register: R231, R233, R235, R237, R239, R241, R243, R245. -/
def linesRotR (o : RotOp) (src : Reg8) : List Line :=
  [fun _ s => (s.setReg src (rotOut o (s.reg src) s.flagC).1).rotFlags (rotOut o (s.reg src) s.flagC)]

/-- A rotate or shift of the byte at HL: R232, R234, R236, R238, R240, R242, R244, R246. -/
def linesRotM (o : RotOp) : List Line :=
  [readT atHL,
   fun r s => (writeMem atHL (fun r s => (rotOut o r.t s.flagC).1) r s).rotFlags (rotOut o r.t s.flagC),
   idle]

/-- `BIT b,r`, R247. -/
def linesBitR (k : BitVec 3) (src : Reg8) : List Line := [fun _ s => s.bitFlags (s.reg src) k]

/-- `BIT b,(HL)`, R248: no write. -/
def linesBitM (k : BitVec 3) : List Line := [readT atHL, fun r s => s.bitFlags r.t k]

/-- `RES b,r`, R249. -/
def linesResR (k : BitVec 3) (src : Reg8) : List Line := [fun _ s => s.setReg src (resBit (s.reg src) k)]

/-- `RES b,(HL)`, R250. -/
def linesResM (k : BitVec 3) : List Line := [readT atHL, writeMem atHL (fun r _ => resBit r.t k), idle]

/-- `SET b,r`, R251. -/
def linesSetR (k : BitVec 3) (src : Reg8) : List Line := [fun _ s => s.setReg src (setBit (s.reg src) k)]

/-- `SET b,(HL)`, R252. -/
def linesSetM (k : BitVec 3) : List Line := [readT atHL, writeMem atHL (fun r _ => setBit r.t k), idle]

/-! ### Meanings -/

/-- `RLC B`, 0xCB 0x00: R231. -/
def execRlc_B (s : State) : Result := runLines (linesRotR .rlc .b) s

/-- `RLC C`, 0xCB 0x01: R231. -/
def execRlc_C (s : State) : Result := runLines (linesRotR .rlc .c) s

/-- `RLC D`, 0xCB 0x02: R231. -/
def execRlc_D (s : State) : Result := runLines (linesRotR .rlc .d) s

/-- `RLC E`, 0xCB 0x03: R231. -/
def execRlc_E (s : State) : Result := runLines (linesRotR .rlc .e) s

/-- `RLC H`, 0xCB 0x04: R231. -/
def execRlc_H (s : State) : Result := runLines (linesRotR .rlc .h) s

/-- `RLC L`, 0xCB 0x05: R231. -/
def execRlc_L (s : State) : Result := runLines (linesRotR .rlc .l) s

/-- `RLC (HL)`, 0xCB 0x06: R232. -/
def execRlc_mHL (s : State) : Result := runLines (linesRotM .rlc) s

/-- `RLC A`, 0xCB 0x07: R231. -/
def execRlc_A (s : State) : Result := runLines (linesRotR .rlc .a) s

/-- `RRC B`, 0xCB 0x08: R233. -/
def execRrc_B (s : State) : Result := runLines (linesRotR .rrc .b) s

/-- `RRC C`, 0xCB 0x09: R233. -/
def execRrc_C (s : State) : Result := runLines (linesRotR .rrc .c) s

/-- `RRC D`, 0xCB 0x0A: R233. -/
def execRrc_D (s : State) : Result := runLines (linesRotR .rrc .d) s

/-- `RRC E`, 0xCB 0x0B: R233. -/
def execRrc_E (s : State) : Result := runLines (linesRotR .rrc .e) s

/-- `RRC H`, 0xCB 0x0C: R233. -/
def execRrc_H (s : State) : Result := runLines (linesRotR .rrc .h) s

/-- `RRC L`, 0xCB 0x0D: R233. -/
def execRrc_L (s : State) : Result := runLines (linesRotR .rrc .l) s

/-- `RRC (HL)`, 0xCB 0x0E: R234. -/
def execRrc_mHL (s : State) : Result := runLines (linesRotM .rrc) s

/-- `RRC A`, 0xCB 0x0F: R233. -/
def execRrc_A (s : State) : Result := runLines (linesRotR .rrc .a) s

/-- `RL B`, 0xCB 0x10: R235. -/
def execRl_B (s : State) : Result := runLines (linesRotR .rl .b) s

/-- `RL C`, 0xCB 0x11: R235. -/
def execRl_C (s : State) : Result := runLines (linesRotR .rl .c) s

/-- `RL D`, 0xCB 0x12: R235. -/
def execRl_D (s : State) : Result := runLines (linesRotR .rl .d) s

/-- `RL E`, 0xCB 0x13: R235. -/
def execRl_E (s : State) : Result := runLines (linesRotR .rl .e) s

/-- `RL H`, 0xCB 0x14: R235. -/
def execRl_H (s : State) : Result := runLines (linesRotR .rl .h) s

/-- `RL L`, 0xCB 0x15: R235. -/
def execRl_L (s : State) : Result := runLines (linesRotR .rl .l) s

/-- `RL (HL)`, 0xCB 0x16: R236. -/
def execRl_mHL (s : State) : Result := runLines (linesRotM .rl) s

/-- `RL A`, 0xCB 0x17: R235. -/
def execRl_A (s : State) : Result := runLines (linesRotR .rl .a) s

/-- `RR B`, 0xCB 0x18: R237. -/
def execRr_B (s : State) : Result := runLines (linesRotR .rr .b) s

/-- `RR C`, 0xCB 0x19: R237. -/
def execRr_C (s : State) : Result := runLines (linesRotR .rr .c) s

/-- `RR D`, 0xCB 0x1A: R237. -/
def execRr_D (s : State) : Result := runLines (linesRotR .rr .d) s

/-- `RR E`, 0xCB 0x1B: R237. -/
def execRr_E (s : State) : Result := runLines (linesRotR .rr .e) s

/-- `RR H`, 0xCB 0x1C: R237. -/
def execRr_H (s : State) : Result := runLines (linesRotR .rr .h) s

/-- `RR L`, 0xCB 0x1D: R237. -/
def execRr_L (s : State) : Result := runLines (linesRotR .rr .l) s

/-- `RR (HL)`, 0xCB 0x1E: R238. -/
def execRr_mHL (s : State) : Result := runLines (linesRotM .rr) s

/-- `RR A`, 0xCB 0x1F: R237. -/
def execRr_A (s : State) : Result := runLines (linesRotR .rr .a) s

/-- `SLA B`, 0xCB 0x20: R239. -/
def execSla_B (s : State) : Result := runLines (linesRotR .sla .b) s

/-- `SLA C`, 0xCB 0x21: R239. -/
def execSla_C (s : State) : Result := runLines (linesRotR .sla .c) s

/-- `SLA D`, 0xCB 0x22: R239. -/
def execSla_D (s : State) : Result := runLines (linesRotR .sla .d) s

/-- `SLA E`, 0xCB 0x23: R239. -/
def execSla_E (s : State) : Result := runLines (linesRotR .sla .e) s

/-- `SLA H`, 0xCB 0x24: R239. -/
def execSla_H (s : State) : Result := runLines (linesRotR .sla .h) s

/-- `SLA L`, 0xCB 0x25: R239. -/
def execSla_L (s : State) : Result := runLines (linesRotR .sla .l) s

/-- `SLA (HL)`, 0xCB 0x26: R240. -/
def execSla_mHL (s : State) : Result := runLines (linesRotM .sla) s

/-- `SLA A`, 0xCB 0x27: R239. -/
def execSla_A (s : State) : Result := runLines (linesRotR .sla .a) s

/-- `SRA B`, 0xCB 0x28: R241. -/
def execSra_B (s : State) : Result := runLines (linesRotR .sra .b) s

/-- `SRA C`, 0xCB 0x29: R241. -/
def execSra_C (s : State) : Result := runLines (linesRotR .sra .c) s

/-- `SRA D`, 0xCB 0x2A: R241. -/
def execSra_D (s : State) : Result := runLines (linesRotR .sra .d) s

/-- `SRA E`, 0xCB 0x2B: R241. -/
def execSra_E (s : State) : Result := runLines (linesRotR .sra .e) s

/-- `SRA H`, 0xCB 0x2C: R241. -/
def execSra_H (s : State) : Result := runLines (linesRotR .sra .h) s

/-- `SRA L`, 0xCB 0x2D: R241. -/
def execSra_L (s : State) : Result := runLines (linesRotR .sra .l) s

/-- `SRA (HL)`, 0xCB 0x2E: R242. -/
def execSra_mHL (s : State) : Result := runLines (linesRotM .sra) s

/-- `SRA A`, 0xCB 0x2F: R241. -/
def execSra_A (s : State) : Result := runLines (linesRotR .sra .a) s

/-- `SWAP B`, 0xCB 0x30: R243. -/
def execSwap_B (s : State) : Result := runLines (linesRotR .swap .b) s

/-- `SWAP C`, 0xCB 0x31: R243. -/
def execSwap_C (s : State) : Result := runLines (linesRotR .swap .c) s

/-- `SWAP D`, 0xCB 0x32: R243. -/
def execSwap_D (s : State) : Result := runLines (linesRotR .swap .d) s

/-- `SWAP E`, 0xCB 0x33: R243. -/
def execSwap_E (s : State) : Result := runLines (linesRotR .swap .e) s

/-- `SWAP H`, 0xCB 0x34: R243. -/
def execSwap_H (s : State) : Result := runLines (linesRotR .swap .h) s

/-- `SWAP L`, 0xCB 0x35: R243. -/
def execSwap_L (s : State) : Result := runLines (linesRotR .swap .l) s

/-- `SWAP (HL)`, 0xCB 0x36: R244. -/
def execSwap_mHL (s : State) : Result := runLines (linesRotM .swap) s

/-- `SWAP A`, 0xCB 0x37: R243. -/
def execSwap_A (s : State) : Result := runLines (linesRotR .swap .a) s

/-- `SRL B`, 0xCB 0x38: R245. -/
def execSrl_B (s : State) : Result := runLines (linesRotR .srl .b) s

/-- `SRL C`, 0xCB 0x39: R245. -/
def execSrl_C (s : State) : Result := runLines (linesRotR .srl .c) s

/-- `SRL D`, 0xCB 0x3A: R245. -/
def execSrl_D (s : State) : Result := runLines (linesRotR .srl .d) s

/-- `SRL E`, 0xCB 0x3B: R245. -/
def execSrl_E (s : State) : Result := runLines (linesRotR .srl .e) s

/-- `SRL H`, 0xCB 0x3C: R245. -/
def execSrl_H (s : State) : Result := runLines (linesRotR .srl .h) s

/-- `SRL L`, 0xCB 0x3D: R245. -/
def execSrl_L (s : State) : Result := runLines (linesRotR .srl .l) s

/-- `SRL (HL)`, 0xCB 0x3E: R246. -/
def execSrl_mHL (s : State) : Result := runLines (linesRotM .srl) s

/-- `SRL A`, 0xCB 0x3F: R245. -/
def execSrl_A (s : State) : Result := runLines (linesRotR .srl .a) s

/-- `BIT 0,B`, 0xCB 0x40: R247. -/
def execBit_0_B (s : State) : Result := runLines (linesBitR 0 .b) s

/-- `BIT 0,C`, 0xCB 0x41: R247. -/
def execBit_0_C (s : State) : Result := runLines (linesBitR 0 .c) s

/-- `BIT 0,D`, 0xCB 0x42: R247. -/
def execBit_0_D (s : State) : Result := runLines (linesBitR 0 .d) s

/-- `BIT 0,E`, 0xCB 0x43: R247. -/
def execBit_0_E (s : State) : Result := runLines (linesBitR 0 .e) s

/-- `BIT 0,H`, 0xCB 0x44: R247. -/
def execBit_0_H (s : State) : Result := runLines (linesBitR 0 .h) s

/-- `BIT 0,L`, 0xCB 0x45: R247. -/
def execBit_0_L (s : State) : Result := runLines (linesBitR 0 .l) s

/-- `BIT 0,(HL)`, 0xCB 0x46: R248. -/
def execBit_0_mHL (s : State) : Result := runLines (linesBitM 0) s

/-- `BIT 0,A`, 0xCB 0x47: R247. -/
def execBit_0_A (s : State) : Result := runLines (linesBitR 0 .a) s

/-- `BIT 1,B`, 0xCB 0x48: R247. -/
def execBit_1_B (s : State) : Result := runLines (linesBitR 1 .b) s

/-- `BIT 1,C`, 0xCB 0x49: R247. -/
def execBit_1_C (s : State) : Result := runLines (linesBitR 1 .c) s

/-- `BIT 1,D`, 0xCB 0x4A: R247. -/
def execBit_1_D (s : State) : Result := runLines (linesBitR 1 .d) s

/-- `BIT 1,E`, 0xCB 0x4B: R247. -/
def execBit_1_E (s : State) : Result := runLines (linesBitR 1 .e) s

/-- `BIT 1,H`, 0xCB 0x4C: R247. -/
def execBit_1_H (s : State) : Result := runLines (linesBitR 1 .h) s

/-- `BIT 1,L`, 0xCB 0x4D: R247. -/
def execBit_1_L (s : State) : Result := runLines (linesBitR 1 .l) s

/-- `BIT 1,(HL)`, 0xCB 0x4E: R248. -/
def execBit_1_mHL (s : State) : Result := runLines (linesBitM 1) s

/-- `BIT 1,A`, 0xCB 0x4F: R247. -/
def execBit_1_A (s : State) : Result := runLines (linesBitR 1 .a) s

/-- `BIT 2,B`, 0xCB 0x50: R247. -/
def execBit_2_B (s : State) : Result := runLines (linesBitR 2 .b) s

/-- `BIT 2,C`, 0xCB 0x51: R247. -/
def execBit_2_C (s : State) : Result := runLines (linesBitR 2 .c) s

/-- `BIT 2,D`, 0xCB 0x52: R247. -/
def execBit_2_D (s : State) : Result := runLines (linesBitR 2 .d) s

/-- `BIT 2,E`, 0xCB 0x53: R247. -/
def execBit_2_E (s : State) : Result := runLines (linesBitR 2 .e) s

/-- `BIT 2,H`, 0xCB 0x54: R247. -/
def execBit_2_H (s : State) : Result := runLines (linesBitR 2 .h) s

/-- `BIT 2,L`, 0xCB 0x55: R247. -/
def execBit_2_L (s : State) : Result := runLines (linesBitR 2 .l) s

/-- `BIT 2,(HL)`, 0xCB 0x56: R248. -/
def execBit_2_mHL (s : State) : Result := runLines (linesBitM 2) s

/-- `BIT 2,A`, 0xCB 0x57: R247. -/
def execBit_2_A (s : State) : Result := runLines (linesBitR 2 .a) s

/-- `BIT 3,B`, 0xCB 0x58: R247. -/
def execBit_3_B (s : State) : Result := runLines (linesBitR 3 .b) s

/-- `BIT 3,C`, 0xCB 0x59: R247. -/
def execBit_3_C (s : State) : Result := runLines (linesBitR 3 .c) s

/-- `BIT 3,D`, 0xCB 0x5A: R247. -/
def execBit_3_D (s : State) : Result := runLines (linesBitR 3 .d) s

/-- `BIT 3,E`, 0xCB 0x5B: R247. -/
def execBit_3_E (s : State) : Result := runLines (linesBitR 3 .e) s

/-- `BIT 3,H`, 0xCB 0x5C: R247. -/
def execBit_3_H (s : State) : Result := runLines (linesBitR 3 .h) s

/-- `BIT 3,L`, 0xCB 0x5D: R247. -/
def execBit_3_L (s : State) : Result := runLines (linesBitR 3 .l) s

/-- `BIT 3,(HL)`, 0xCB 0x5E: R248. -/
def execBit_3_mHL (s : State) : Result := runLines (linesBitM 3) s

/-- `BIT 3,A`, 0xCB 0x5F: R247. -/
def execBit_3_A (s : State) : Result := runLines (linesBitR 3 .a) s

/-- `BIT 4,B`, 0xCB 0x60: R247. -/
def execBit_4_B (s : State) : Result := runLines (linesBitR 4 .b) s

/-- `BIT 4,C`, 0xCB 0x61: R247. -/
def execBit_4_C (s : State) : Result := runLines (linesBitR 4 .c) s

/-- `BIT 4,D`, 0xCB 0x62: R247. -/
def execBit_4_D (s : State) : Result := runLines (linesBitR 4 .d) s

/-- `BIT 4,E`, 0xCB 0x63: R247. -/
def execBit_4_E (s : State) : Result := runLines (linesBitR 4 .e) s

/-- `BIT 4,H`, 0xCB 0x64: R247. -/
def execBit_4_H (s : State) : Result := runLines (linesBitR 4 .h) s

/-- `BIT 4,L`, 0xCB 0x65: R247. -/
def execBit_4_L (s : State) : Result := runLines (linesBitR 4 .l) s

/-- `BIT 4,(HL)`, 0xCB 0x66: R248. -/
def execBit_4_mHL (s : State) : Result := runLines (linesBitM 4) s

/-- `BIT 4,A`, 0xCB 0x67: R247. -/
def execBit_4_A (s : State) : Result := runLines (linesBitR 4 .a) s

/-- `BIT 5,B`, 0xCB 0x68: R247. -/
def execBit_5_B (s : State) : Result := runLines (linesBitR 5 .b) s

/-- `BIT 5,C`, 0xCB 0x69: R247. -/
def execBit_5_C (s : State) : Result := runLines (linesBitR 5 .c) s

/-- `BIT 5,D`, 0xCB 0x6A: R247. -/
def execBit_5_D (s : State) : Result := runLines (linesBitR 5 .d) s

/-- `BIT 5,E`, 0xCB 0x6B: R247. -/
def execBit_5_E (s : State) : Result := runLines (linesBitR 5 .e) s

/-- `BIT 5,H`, 0xCB 0x6C: R247. -/
def execBit_5_H (s : State) : Result := runLines (linesBitR 5 .h) s

/-- `BIT 5,L`, 0xCB 0x6D: R247. -/
def execBit_5_L (s : State) : Result := runLines (linesBitR 5 .l) s

/-- `BIT 5,(HL)`, 0xCB 0x6E: R248. -/
def execBit_5_mHL (s : State) : Result := runLines (linesBitM 5) s

/-- `BIT 5,A`, 0xCB 0x6F: R247. -/
def execBit_5_A (s : State) : Result := runLines (linesBitR 5 .a) s

/-- `BIT 6,B`, 0xCB 0x70: R247. -/
def execBit_6_B (s : State) : Result := runLines (linesBitR 6 .b) s

/-- `BIT 6,C`, 0xCB 0x71: R247. -/
def execBit_6_C (s : State) : Result := runLines (linesBitR 6 .c) s

/-- `BIT 6,D`, 0xCB 0x72: R247. -/
def execBit_6_D (s : State) : Result := runLines (linesBitR 6 .d) s

/-- `BIT 6,E`, 0xCB 0x73: R247. -/
def execBit_6_E (s : State) : Result := runLines (linesBitR 6 .e) s

/-- `BIT 6,H`, 0xCB 0x74: R247. -/
def execBit_6_H (s : State) : Result := runLines (linesBitR 6 .h) s

/-- `BIT 6,L`, 0xCB 0x75: R247. -/
def execBit_6_L (s : State) : Result := runLines (linesBitR 6 .l) s

/-- `BIT 6,(HL)`, 0xCB 0x76: R248. -/
def execBit_6_mHL (s : State) : Result := runLines (linesBitM 6) s

/-- `BIT 6,A`, 0xCB 0x77: R247. -/
def execBit_6_A (s : State) : Result := runLines (linesBitR 6 .a) s

/-- `BIT 7,B`, 0xCB 0x78: R247. -/
def execBit_7_B (s : State) : Result := runLines (linesBitR 7 .b) s

/-- `BIT 7,C`, 0xCB 0x79: R247. -/
def execBit_7_C (s : State) : Result := runLines (linesBitR 7 .c) s

/-- `BIT 7,D`, 0xCB 0x7A: R247. -/
def execBit_7_D (s : State) : Result := runLines (linesBitR 7 .d) s

/-- `BIT 7,E`, 0xCB 0x7B: R247. -/
def execBit_7_E (s : State) : Result := runLines (linesBitR 7 .e) s

/-- `BIT 7,H`, 0xCB 0x7C: R247. -/
def execBit_7_H (s : State) : Result := runLines (linesBitR 7 .h) s

/-- `BIT 7,L`, 0xCB 0x7D: R247. -/
def execBit_7_L (s : State) : Result := runLines (linesBitR 7 .l) s

/-- `BIT 7,(HL)`, 0xCB 0x7E: R248. -/
def execBit_7_mHL (s : State) : Result := runLines (linesBitM 7) s

/-- `BIT 7,A`, 0xCB 0x7F: R247. -/
def execBit_7_A (s : State) : Result := runLines (linesBitR 7 .a) s

/-- `RES 0,B`, 0xCB 0x80: R249. -/
def execRes_0_B (s : State) : Result := runLines (linesResR 0 .b) s

/-- `RES 0,C`, 0xCB 0x81: R249. -/
def execRes_0_C (s : State) : Result := runLines (linesResR 0 .c) s

/-- `RES 0,D`, 0xCB 0x82: R249. -/
def execRes_0_D (s : State) : Result := runLines (linesResR 0 .d) s

/-- `RES 0,E`, 0xCB 0x83: R249. -/
def execRes_0_E (s : State) : Result := runLines (linesResR 0 .e) s

/-- `RES 0,H`, 0xCB 0x84: R249. -/
def execRes_0_H (s : State) : Result := runLines (linesResR 0 .h) s

/-- `RES 0,L`, 0xCB 0x85: R249. -/
def execRes_0_L (s : State) : Result := runLines (linesResR 0 .l) s

/-- `RES 0,(HL)`, 0xCB 0x86: R250. -/
def execRes_0_mHL (s : State) : Result := runLines (linesResM 0) s

/-- `RES 0,A`, 0xCB 0x87: R249. -/
def execRes_0_A (s : State) : Result := runLines (linesResR 0 .a) s

/-- `RES 1,B`, 0xCB 0x88: R249. -/
def execRes_1_B (s : State) : Result := runLines (linesResR 1 .b) s

/-- `RES 1,C`, 0xCB 0x89: R249. -/
def execRes_1_C (s : State) : Result := runLines (linesResR 1 .c) s

/-- `RES 1,D`, 0xCB 0x8A: R249. -/
def execRes_1_D (s : State) : Result := runLines (linesResR 1 .d) s

/-- `RES 1,E`, 0xCB 0x8B: R249. -/
def execRes_1_E (s : State) : Result := runLines (linesResR 1 .e) s

/-- `RES 1,H`, 0xCB 0x8C: R249. -/
def execRes_1_H (s : State) : Result := runLines (linesResR 1 .h) s

/-- `RES 1,L`, 0xCB 0x8D: R249. -/
def execRes_1_L (s : State) : Result := runLines (linesResR 1 .l) s

/-- `RES 1,(HL)`, 0xCB 0x8E: R250. -/
def execRes_1_mHL (s : State) : Result := runLines (linesResM 1) s

/-- `RES 1,A`, 0xCB 0x8F: R249. -/
def execRes_1_A (s : State) : Result := runLines (linesResR 1 .a) s

/-- `RES 2,B`, 0xCB 0x90: R249. -/
def execRes_2_B (s : State) : Result := runLines (linesResR 2 .b) s

/-- `RES 2,C`, 0xCB 0x91: R249. -/
def execRes_2_C (s : State) : Result := runLines (linesResR 2 .c) s

/-- `RES 2,D`, 0xCB 0x92: R249. -/
def execRes_2_D (s : State) : Result := runLines (linesResR 2 .d) s

/-- `RES 2,E`, 0xCB 0x93: R249. -/
def execRes_2_E (s : State) : Result := runLines (linesResR 2 .e) s

/-- `RES 2,H`, 0xCB 0x94: R249. -/
def execRes_2_H (s : State) : Result := runLines (linesResR 2 .h) s

/-- `RES 2,L`, 0xCB 0x95: R249. -/
def execRes_2_L (s : State) : Result := runLines (linesResR 2 .l) s

/-- `RES 2,(HL)`, 0xCB 0x96: R250. -/
def execRes_2_mHL (s : State) : Result := runLines (linesResM 2) s

/-- `RES 2,A`, 0xCB 0x97: R249. -/
def execRes_2_A (s : State) : Result := runLines (linesResR 2 .a) s

/-- `RES 3,B`, 0xCB 0x98: R249. -/
def execRes_3_B (s : State) : Result := runLines (linesResR 3 .b) s

/-- `RES 3,C`, 0xCB 0x99: R249. -/
def execRes_3_C (s : State) : Result := runLines (linesResR 3 .c) s

/-- `RES 3,D`, 0xCB 0x9A: R249. -/
def execRes_3_D (s : State) : Result := runLines (linesResR 3 .d) s

/-- `RES 3,E`, 0xCB 0x9B: R249. -/
def execRes_3_E (s : State) : Result := runLines (linesResR 3 .e) s

/-- `RES 3,H`, 0xCB 0x9C: R249. -/
def execRes_3_H (s : State) : Result := runLines (linesResR 3 .h) s

/-- `RES 3,L`, 0xCB 0x9D: R249. -/
def execRes_3_L (s : State) : Result := runLines (linesResR 3 .l) s

/-- `RES 3,(HL)`, 0xCB 0x9E: R250. -/
def execRes_3_mHL (s : State) : Result := runLines (linesResM 3) s

/-- `RES 3,A`, 0xCB 0x9F: R249. -/
def execRes_3_A (s : State) : Result := runLines (linesResR 3 .a) s

/-- `RES 4,B`, 0xCB 0xA0: R249. -/
def execRes_4_B (s : State) : Result := runLines (linesResR 4 .b) s

/-- `RES 4,C`, 0xCB 0xA1: R249. -/
def execRes_4_C (s : State) : Result := runLines (linesResR 4 .c) s

/-- `RES 4,D`, 0xCB 0xA2: R249. -/
def execRes_4_D (s : State) : Result := runLines (linesResR 4 .d) s

/-- `RES 4,E`, 0xCB 0xA3: R249. -/
def execRes_4_E (s : State) : Result := runLines (linesResR 4 .e) s

/-- `RES 4,H`, 0xCB 0xA4: R249. -/
def execRes_4_H (s : State) : Result := runLines (linesResR 4 .h) s

/-- `RES 4,L`, 0xCB 0xA5: R249. -/
def execRes_4_L (s : State) : Result := runLines (linesResR 4 .l) s

/-- `RES 4,(HL)`, 0xCB 0xA6: R250. -/
def execRes_4_mHL (s : State) : Result := runLines (linesResM 4) s

/-- `RES 4,A`, 0xCB 0xA7: R249. -/
def execRes_4_A (s : State) : Result := runLines (linesResR 4 .a) s

/-- `RES 5,B`, 0xCB 0xA8: R249. -/
def execRes_5_B (s : State) : Result := runLines (linesResR 5 .b) s

/-- `RES 5,C`, 0xCB 0xA9: R249. -/
def execRes_5_C (s : State) : Result := runLines (linesResR 5 .c) s

/-- `RES 5,D`, 0xCB 0xAA: R249. -/
def execRes_5_D (s : State) : Result := runLines (linesResR 5 .d) s

/-- `RES 5,E`, 0xCB 0xAB: R249. -/
def execRes_5_E (s : State) : Result := runLines (linesResR 5 .e) s

/-- `RES 5,H`, 0xCB 0xAC: R249. -/
def execRes_5_H (s : State) : Result := runLines (linesResR 5 .h) s

/-- `RES 5,L`, 0xCB 0xAD: R249. -/
def execRes_5_L (s : State) : Result := runLines (linesResR 5 .l) s

/-- `RES 5,(HL)`, 0xCB 0xAE: R250. -/
def execRes_5_mHL (s : State) : Result := runLines (linesResM 5) s

/-- `RES 5,A`, 0xCB 0xAF: R249. -/
def execRes_5_A (s : State) : Result := runLines (linesResR 5 .a) s

/-- `RES 6,B`, 0xCB 0xB0: R249. -/
def execRes_6_B (s : State) : Result := runLines (linesResR 6 .b) s

/-- `RES 6,C`, 0xCB 0xB1: R249. -/
def execRes_6_C (s : State) : Result := runLines (linesResR 6 .c) s

/-- `RES 6,D`, 0xCB 0xB2: R249. -/
def execRes_6_D (s : State) : Result := runLines (linesResR 6 .d) s

/-- `RES 6,E`, 0xCB 0xB3: R249. -/
def execRes_6_E (s : State) : Result := runLines (linesResR 6 .e) s

/-- `RES 6,H`, 0xCB 0xB4: R249. -/
def execRes_6_H (s : State) : Result := runLines (linesResR 6 .h) s

/-- `RES 6,L`, 0xCB 0xB5: R249. -/
def execRes_6_L (s : State) : Result := runLines (linesResR 6 .l) s

/-- `RES 6,(HL)`, 0xCB 0xB6: R250. -/
def execRes_6_mHL (s : State) : Result := runLines (linesResM 6) s

/-- `RES 6,A`, 0xCB 0xB7: R249. -/
def execRes_6_A (s : State) : Result := runLines (linesResR 6 .a) s

/-- `RES 7,B`, 0xCB 0xB8: R249. -/
def execRes_7_B (s : State) : Result := runLines (linesResR 7 .b) s

/-- `RES 7,C`, 0xCB 0xB9: R249. -/
def execRes_7_C (s : State) : Result := runLines (linesResR 7 .c) s

/-- `RES 7,D`, 0xCB 0xBA: R249. -/
def execRes_7_D (s : State) : Result := runLines (linesResR 7 .d) s

/-- `RES 7,E`, 0xCB 0xBB: R249. -/
def execRes_7_E (s : State) : Result := runLines (linesResR 7 .e) s

/-- `RES 7,H`, 0xCB 0xBC: R249. -/
def execRes_7_H (s : State) : Result := runLines (linesResR 7 .h) s

/-- `RES 7,L`, 0xCB 0xBD: R249. -/
def execRes_7_L (s : State) : Result := runLines (linesResR 7 .l) s

/-- `RES 7,(HL)`, 0xCB 0xBE: R250. -/
def execRes_7_mHL (s : State) : Result := runLines (linesResM 7) s

/-- `RES 7,A`, 0xCB 0xBF: R249. -/
def execRes_7_A (s : State) : Result := runLines (linesResR 7 .a) s

/-- `SET 0,B`, 0xCB 0xC0: R251. -/
def execSet_0_B (s : State) : Result := runLines (linesSetR 0 .b) s

/-- `SET 0,C`, 0xCB 0xC1: R251. -/
def execSet_0_C (s : State) : Result := runLines (linesSetR 0 .c) s

/-- `SET 0,D`, 0xCB 0xC2: R251. -/
def execSet_0_D (s : State) : Result := runLines (linesSetR 0 .d) s

/-- `SET 0,E`, 0xCB 0xC3: R251. -/
def execSet_0_E (s : State) : Result := runLines (linesSetR 0 .e) s

/-- `SET 0,H`, 0xCB 0xC4: R251. -/
def execSet_0_H (s : State) : Result := runLines (linesSetR 0 .h) s

/-- `SET 0,L`, 0xCB 0xC5: R251. -/
def execSet_0_L (s : State) : Result := runLines (linesSetR 0 .l) s

/-- `SET 0,(HL)`, 0xCB 0xC6: R252. -/
def execSet_0_mHL (s : State) : Result := runLines (linesSetM 0) s

/-- `SET 0,A`, 0xCB 0xC7: R251. -/
def execSet_0_A (s : State) : Result := runLines (linesSetR 0 .a) s

/-- `SET 1,B`, 0xCB 0xC8: R251. -/
def execSet_1_B (s : State) : Result := runLines (linesSetR 1 .b) s

/-- `SET 1,C`, 0xCB 0xC9: R251. -/
def execSet_1_C (s : State) : Result := runLines (linesSetR 1 .c) s

/-- `SET 1,D`, 0xCB 0xCA: R251. -/
def execSet_1_D (s : State) : Result := runLines (linesSetR 1 .d) s

/-- `SET 1,E`, 0xCB 0xCB: R251. -/
def execSet_1_E (s : State) : Result := runLines (linesSetR 1 .e) s

/-- `SET 1,H`, 0xCB 0xCC: R251. -/
def execSet_1_H (s : State) : Result := runLines (linesSetR 1 .h) s

/-- `SET 1,L`, 0xCB 0xCD: R251. -/
def execSet_1_L (s : State) : Result := runLines (linesSetR 1 .l) s

/-- `SET 1,(HL)`, 0xCB 0xCE: R252. -/
def execSet_1_mHL (s : State) : Result := runLines (linesSetM 1) s

/-- `SET 1,A`, 0xCB 0xCF: R251. -/
def execSet_1_A (s : State) : Result := runLines (linesSetR 1 .a) s

/-- `SET 2,B`, 0xCB 0xD0: R251. -/
def execSet_2_B (s : State) : Result := runLines (linesSetR 2 .b) s

/-- `SET 2,C`, 0xCB 0xD1: R251. -/
def execSet_2_C (s : State) : Result := runLines (linesSetR 2 .c) s

/-- `SET 2,D`, 0xCB 0xD2: R251. -/
def execSet_2_D (s : State) : Result := runLines (linesSetR 2 .d) s

/-- `SET 2,E`, 0xCB 0xD3: R251. -/
def execSet_2_E (s : State) : Result := runLines (linesSetR 2 .e) s

/-- `SET 2,H`, 0xCB 0xD4: R251. -/
def execSet_2_H (s : State) : Result := runLines (linesSetR 2 .h) s

/-- `SET 2,L`, 0xCB 0xD5: R251. -/
def execSet_2_L (s : State) : Result := runLines (linesSetR 2 .l) s

/-- `SET 2,(HL)`, 0xCB 0xD6: R252. -/
def execSet_2_mHL (s : State) : Result := runLines (linesSetM 2) s

/-- `SET 2,A`, 0xCB 0xD7: R251. -/
def execSet_2_A (s : State) : Result := runLines (linesSetR 2 .a) s

/-- `SET 3,B`, 0xCB 0xD8: R251. -/
def execSet_3_B (s : State) : Result := runLines (linesSetR 3 .b) s

/-- `SET 3,C`, 0xCB 0xD9: R251. -/
def execSet_3_C (s : State) : Result := runLines (linesSetR 3 .c) s

/-- `SET 3,D`, 0xCB 0xDA: R251. -/
def execSet_3_D (s : State) : Result := runLines (linesSetR 3 .d) s

/-- `SET 3,E`, 0xCB 0xDB: R251. -/
def execSet_3_E (s : State) : Result := runLines (linesSetR 3 .e) s

/-- `SET 3,H`, 0xCB 0xDC: R251. -/
def execSet_3_H (s : State) : Result := runLines (linesSetR 3 .h) s

/-- `SET 3,L`, 0xCB 0xDD: R251. -/
def execSet_3_L (s : State) : Result := runLines (linesSetR 3 .l) s

/-- `SET 3,(HL)`, 0xCB 0xDE: R252. -/
def execSet_3_mHL (s : State) : Result := runLines (linesSetM 3) s

/-- `SET 3,A`, 0xCB 0xDF: R251. -/
def execSet_3_A (s : State) : Result := runLines (linesSetR 3 .a) s

/-- `SET 4,B`, 0xCB 0xE0: R251. -/
def execSet_4_B (s : State) : Result := runLines (linesSetR 4 .b) s

/-- `SET 4,C`, 0xCB 0xE1: R251. -/
def execSet_4_C (s : State) : Result := runLines (linesSetR 4 .c) s

/-- `SET 4,D`, 0xCB 0xE2: R251. -/
def execSet_4_D (s : State) : Result := runLines (linesSetR 4 .d) s

/-- `SET 4,E`, 0xCB 0xE3: R251. -/
def execSet_4_E (s : State) : Result := runLines (linesSetR 4 .e) s

/-- `SET 4,H`, 0xCB 0xE4: R251. -/
def execSet_4_H (s : State) : Result := runLines (linesSetR 4 .h) s

/-- `SET 4,L`, 0xCB 0xE5: R251. -/
def execSet_4_L (s : State) : Result := runLines (linesSetR 4 .l) s

/-- `SET 4,(HL)`, 0xCB 0xE6: R252. -/
def execSet_4_mHL (s : State) : Result := runLines (linesSetM 4) s

/-- `SET 4,A`, 0xCB 0xE7: R251. -/
def execSet_4_A (s : State) : Result := runLines (linesSetR 4 .a) s

/-- `SET 5,B`, 0xCB 0xE8: R251. -/
def execSet_5_B (s : State) : Result := runLines (linesSetR 5 .b) s

/-- `SET 5,C`, 0xCB 0xE9: R251. -/
def execSet_5_C (s : State) : Result := runLines (linesSetR 5 .c) s

/-- `SET 5,D`, 0xCB 0xEA: R251. -/
def execSet_5_D (s : State) : Result := runLines (linesSetR 5 .d) s

/-- `SET 5,E`, 0xCB 0xEB: R251. -/
def execSet_5_E (s : State) : Result := runLines (linesSetR 5 .e) s

/-- `SET 5,H`, 0xCB 0xEC: R251. -/
def execSet_5_H (s : State) : Result := runLines (linesSetR 5 .h) s

/-- `SET 5,L`, 0xCB 0xED: R251. -/
def execSet_5_L (s : State) : Result := runLines (linesSetR 5 .l) s

/-- `SET 5,(HL)`, 0xCB 0xEE: R252. -/
def execSet_5_mHL (s : State) : Result := runLines (linesSetM 5) s

/-- `SET 5,A`, 0xCB 0xEF: R251. -/
def execSet_5_A (s : State) : Result := runLines (linesSetR 5 .a) s

/-- `SET 6,B`, 0xCB 0xF0: R251. -/
def execSet_6_B (s : State) : Result := runLines (linesSetR 6 .b) s

/-- `SET 6,C`, 0xCB 0xF1: R251. -/
def execSet_6_C (s : State) : Result := runLines (linesSetR 6 .c) s

/-- `SET 6,D`, 0xCB 0xF2: R251. -/
def execSet_6_D (s : State) : Result := runLines (linesSetR 6 .d) s

/-- `SET 6,E`, 0xCB 0xF3: R251. -/
def execSet_6_E (s : State) : Result := runLines (linesSetR 6 .e) s

/-- `SET 6,H`, 0xCB 0xF4: R251. -/
def execSet_6_H (s : State) : Result := runLines (linesSetR 6 .h) s

/-- `SET 6,L`, 0xCB 0xF5: R251. -/
def execSet_6_L (s : State) : Result := runLines (linesSetR 6 .l) s

/-- `SET 6,(HL)`, 0xCB 0xF6: R252. -/
def execSet_6_mHL (s : State) : Result := runLines (linesSetM 6) s

/-- `SET 6,A`, 0xCB 0xF7: R251. -/
def execSet_6_A (s : State) : Result := runLines (linesSetR 6 .a) s

/-- `SET 7,B`, 0xCB 0xF8: R251. -/
def execSet_7_B (s : State) : Result := runLines (linesSetR 7 .b) s

/-- `SET 7,C`, 0xCB 0xF9: R251. -/
def execSet_7_C (s : State) : Result := runLines (linesSetR 7 .c) s

/-- `SET 7,D`, 0xCB 0xFA: R251. -/
def execSet_7_D (s : State) : Result := runLines (linesSetR 7 .d) s

/-- `SET 7,E`, 0xCB 0xFB: R251. -/
def execSet_7_E (s : State) : Result := runLines (linesSetR 7 .e) s

/-- `SET 7,H`, 0xCB 0xFC: R251. -/
def execSet_7_H (s : State) : Result := runLines (linesSetR 7 .h) s

/-- `SET 7,L`, 0xCB 0xFD: R251. -/
def execSet_7_L (s : State) : Result := runLines (linesSetR 7 .l) s

/-- `SET 7,(HL)`, 0xCB 0xFE: R252. -/
def execSet_7_mHL (s : State) : Result := runLines (linesSetM 7) s

/-- `SET 7,A`, 0xCB 0xFF: R251. -/
def execSet_7_A (s : State) : Result := runLines (linesSetR 7 .a) s

end Sys2Proof.Machine
end

