-- ==== Sys2Proof/Machine/System.lean ====
section
/-! DEFINITION. The system and mode instructions, 46_system.md R220 to R226, and the UNDEFINED rows of the table (R82, R260). -/

namespace Sys2Proof.Machine

/-! ### Schedules -/

/-- `NOP`, R220. -/
def linesNop : List Line := [idle]

/-- `HALT`, R221: it records halt-mode and does not stall. -/
def linesHalt : List Line := [fun _ s => { s with haltMode := true }]

/-- `STOP`, R222: it records stop-mode and does not stall. -/
def linesStop : List Line := [fun _ s => { s with stopMode := true }]

/-- `DI`, R223. -/
def linesDi : List Line := [fun _ s => { s with ime := false, imeScheduled := false }]

/-- `EI`, R224. -/
def linesEi : List Line := [fun _ s => { s with imeScheduled := true }]

/-- `PREFIX`, R225. -/
def linesPrefixCB : List Line := [fun _ s => { s with prefixPending := true }]

/-- An undefined byte as the current instruction: the decode fault of R260, at the address before PC, from which the
byte was read (R30; log 13). The driver's own fetch raises the fault without building a record. -/
def undefinedByte (op : Byte) (s : State) : Result := .next (s.raiseDecodeFault op (s.pc - 1))

/-! ### Meanings -/

/-- `NOP`, 0x00: R220. -/
def execNop (s : State) : Result := runLines linesNop s

/-- `STOP`, 0x10: R222. -/
def execStop (s : State) : Result := runLines linesStop s

/-- `HALT`, 0x76: R221. -/
def execHalt (s : State) : Result := runLines linesHalt s

/-- `PREFIX`, 0xCB: R225. -/
def execPrefixCB (s : State) : Result := runLines linesPrefixCB s

/-- UNDEFINED 0xD3: R82, R260. -/
def execUndefined_D3 (s : State) : Result := undefinedByte 0xD3 s

/-- UNDEFINED 0xDB: R82, R260. -/
def execUndefined_DB (s : State) : Result := undefinedByte 0xDB s

/-- UNDEFINED 0xDD: R82, R260. -/
def execUndefined_DD (s : State) : Result := undefinedByte 0xDD s

/-- UNDEFINED 0xE3: R82, R260. -/
def execUndefined_E3 (s : State) : Result := undefinedByte 0xE3 s

/-- UNDEFINED 0xE4: R82, R260. -/
def execUndefined_E4 (s : State) : Result := undefinedByte 0xE4 s

/-- UNDEFINED 0xEB: R82, R260. -/
def execUndefined_EB (s : State) : Result := undefinedByte 0xEB s

/-- UNDEFINED 0xEC: R82, R260. -/
def execUndefined_EC (s : State) : Result := undefinedByte 0xEC s

/-- UNDEFINED 0xED: R82, R260. -/
def execUndefined_ED (s : State) : Result := undefinedByte 0xED s

/-- `DI`, 0xF3: R223. -/
def execDi (s : State) : Result := runLines linesDi s

/-- UNDEFINED 0xF4: R82, R260. -/
def execUndefined_F4 (s : State) : Result := undefinedByte 0xF4 s

/-- `EI`, 0xFB: R224. -/
def execEi (s : State) : Result := runLines linesEi s

/-- UNDEFINED 0xFC: R82, R260. -/
def execUndefined_FC (s : State) : Result := undefinedByte 0xFC s

/-- UNDEFINED 0xFD: R82, R260. -/
def execUndefined_FD (s : State) : Result := undefinedByte 0xFD s

end Sys2Proof.Machine
end

