-- ==== Sys2Proof/Machine/Step.lean ====
section
/-! DEFINITION. The step of the core: one call of `AdvanceMachineCycle`, one machine cycle (30_encoding.md R85); the driver's two calls (10_state.md R42); and the placing of an instruction from outside. -/

namespace Sys2Proof.Machine

/-- `AdvanceMachineCycle()`, R85. A full fault slot is stuck: the call
returns and changes no state of the core (R261); it is a call all the same, and is counted (R283). -/
def step (s : State) : Host.Outcome State Fault Refusal :=
  match s.fault with
  | some _ => .next s.countCall
  | none =>
    match s.record with
    | none => .fault .noCurrentRecord
    | some r =>
      match exec r.instr (s.beginCycle r) with
      | .next s' => .next s'.endCycle
      | .fault x => .fault x
      | .refused x => .refused x

/-- The two calls of the driver that change the core, R42. -/
inductive DriverCall where
  | reset
  | advanceMachineCycle
deriving DecidableEq, Repr

/-- What a call of the driver does: R85, R280, R282. -/
def driverCall (call : DriverCall) (s : State) : Host.Outcome State Fault Refusal :=
  match call with
  | .reset => .next s.resetCore
  | .advanceMachineCycle => step s

/-- `s` with the instruction of the table word `w` loaded as the one that the next step runs (log 10). Between two calls
the opcode of the current instruction lies just before PC (R30, R88) and its record is already built. So three bytes
go into the backing store from PC - 1 on (a delegate that would hide one of them goes), PC moves past the opcode bytes,
and the record is the one the fetch builds, or the decode fault it raises. -/
def State.withFetchWord (s : State) (nbits w : Nat) : State :=
  let word := w % 2 ^ nbits
  let addr := s.pc - 1
  let loaded := s.placeBytes addr [BitVec.ofNat 8 word, BitVec.ofNat 8 (word / 256), BitVec.ofNat 8 (word / 65536)]
  let visible := { loaded with
    delegatedRead := s.delegatedRead.filter (fun x => x != addr && x != addr + 1 && x != addr + 2)
    fault := none }
  match opcodeBytesOf nbits word with
  | [op] => ({ visible with pc := addr + 1, prefixPending := false }).decodeFetched op addr
  | op :: op' :: _ =>
    if op = 0xCB#8 then ({ visible with pc := addr + 2, prefixPending := true }).decodeFetched op' (addr + 1)
    else ({ visible with pc := addr + 1, prefixPending := false }).decodeFetched op addr
  | [] => visible

end Sys2Proof.Machine
end

