-- ==== Sys2Proof/Machine/Schedules.lean ====
section
/-! DEFINITION. The schedule of each form (00_scope.md R11): a second way to name the meanings, by family and operands. `exec` does not use it; statements and proofs do. -/

namespace Sys2Proof.Machine

/-- The cycle lines of a form; an undefined byte has none (R82). -/
def formLines : Form → List Line
  | .nop => linesNop
  | .halt => linesHalt
  | .stop => linesStop
  | .di => linesDi
  | .ei => linesEi
  | .prefixCB => linesPrefixCB
  | .ldRR dst src => linesLdRR dst src
  | .ldRN dst => linesLdRN dst
  | .ldRM dst => linesLdRM dst
  | .ldMR src => linesLdMR src
  | .ldMN => linesLdMN
  | .ldABC => linesLdABC
  | .ldADE => linesLdADE
  | .ldBCA => linesLdBCA
  | .ldDEA => linesLdDEA
  | .ldANN => linesLdANN
  | .ldNNA => linesLdNNA
  | .ldhAN => linesLdhAN
  | .ldhNA => linesLdhNA
  | .ldAC => linesLdAC
  | .ldCA => linesLdCA
  | .ldAHLI => linesLdAHLI
  | .ldAHLD => linesLdAHLD
  | .ldHLIA => linesLdHLIA
  | .ldHLDA => linesLdHLDA
  | .ldPairNN dd => linesLdPairNN dd
  | .ldNNSP => linesLdNNSP
  | .ldSPHL => linesLdSPHL
  | .push qq => linesPush qq
  | .pop qq => linesPop qq
  | .aluR o src => linesAluR o src
  | .aluM o => linesAluM o
  | .aluN o => linesAluN o
  | .incR dst => linesIncR dst
  | .incM => linesIncM
  | .decR dst => linesDecR dst
  | .decM => linesDecM
  | .daa => linesDaa
  | .cpl => linesCpl
  | .scf => linesScf
  | .ccf => linesCcf
  | .rlca => linesRotA .rlc
  | .rrca => linesRotA .rrc
  | .rla => linesRotA .rl
  | .rra => linesRotA .rr
  | .incPair dd => linesIncPair dd
  | .decPair dd => linesDecPair dd
  | .addHL dd => linesAddHL dd
  | .addSPE => linesAddSPE
  | .ldHLSPE => linesLdHLSPE
  | .jp => linesJp
  | .jpCc cc => linesJpCc cc
  | .jpHL => linesJpHL
  | .jr => linesJr
  | .jrCc cc => linesJrCc cc
  | .call => linesCall
  | .callCc cc => linesCallCc cc
  | .ret => linesRet
  | .retCc cc => linesRetCc cc
  | .reti => linesReti
  | .rst ttt => linesRst ttt
  | .rotR o src => linesRotR o src
  | .rotM o => linesRotM o
  | .bitR k src => linesBitR k src
  | .bitM k => linesBitM k
  | .resR k src => linesResR k src
  | .resM k => linesResM k
  | .setR k src => linesSetR k src
  | .setM k => linesSetM k
  | .undefined _ => []

/-- One machine cycle of an instruction of a form. -/
def runForm (f : Form) (s : State) : Result :=
  match f with
  | .undefined op => undefinedByte op s
  | .nop => runLines (formLines (.nop)) s
  | .halt => runLines (formLines (.halt)) s
  | .stop => runLines (formLines (.stop)) s
  | .di => runLines (formLines (.di)) s
  | .ei => runLines (formLines (.ei)) s
  | .prefixCB => runLines (formLines (.prefixCB)) s
  | .ldRR dst src => runLines (formLines (.ldRR dst src)) s
  | .ldRN dst => runLines (formLines (.ldRN dst)) s
  | .ldRM dst => runLines (formLines (.ldRM dst)) s
  | .ldMR src => runLines (formLines (.ldMR src)) s
  | .ldMN => runLines (formLines (.ldMN)) s
  | .ldABC => runLines (formLines (.ldABC)) s
  | .ldADE => runLines (formLines (.ldADE)) s
  | .ldBCA => runLines (formLines (.ldBCA)) s
  | .ldDEA => runLines (formLines (.ldDEA)) s
  | .ldANN => runLines (formLines (.ldANN)) s
  | .ldNNA => runLines (formLines (.ldNNA)) s
  | .ldhAN => runLines (formLines (.ldhAN)) s
  | .ldhNA => runLines (formLines (.ldhNA)) s
  | .ldAC => runLines (formLines (.ldAC)) s
  | .ldCA => runLines (formLines (.ldCA)) s
  | .ldAHLI => runLines (formLines (.ldAHLI)) s
  | .ldAHLD => runLines (formLines (.ldAHLD)) s
  | .ldHLIA => runLines (formLines (.ldHLIA)) s
  | .ldHLDA => runLines (formLines (.ldHLDA)) s
  | .ldPairNN dd => runLines (formLines (.ldPairNN dd)) s
  | .ldNNSP => runLines (formLines (.ldNNSP)) s
  | .ldSPHL => runLines (formLines (.ldSPHL)) s
  | .push qq => runLines (formLines (.push qq)) s
  | .pop qq => runLines (formLines (.pop qq)) s
  | .aluR o src => runLines (formLines (.aluR o src)) s
  | .aluM o => runLines (formLines (.aluM o)) s
  | .aluN o => runLines (formLines (.aluN o)) s
  | .incR dst => runLines (formLines (.incR dst)) s
  | .incM => runLines (formLines (.incM)) s
  | .decR dst => runLines (formLines (.decR dst)) s
  | .decM => runLines (formLines (.decM)) s
  | .daa => runLines (formLines (.daa)) s
  | .cpl => runLines (formLines (.cpl)) s
  | .scf => runLines (formLines (.scf)) s
  | .ccf => runLines (formLines (.ccf)) s
  | .rlca => runLines (formLines (.rlca)) s
  | .rrca => runLines (formLines (.rrca)) s
  | .rla => runLines (formLines (.rla)) s
  | .rra => runLines (formLines (.rra)) s
  | .incPair dd => runLines (formLines (.incPair dd)) s
  | .decPair dd => runLines (formLines (.decPair dd)) s
  | .addHL dd => runLines (formLines (.addHL dd)) s
  | .addSPE => runLines (formLines (.addSPE)) s
  | .ldHLSPE => runLines (formLines (.ldHLSPE)) s
  | .jp => runLines (formLines (.jp)) s
  | .jpCc cc => runLines (formLines (.jpCc cc)) s
  | .jpHL => runLines (formLines (.jpHL)) s
  | .jr => runLines (formLines (.jr)) s
  | .jrCc cc => runLines (formLines (.jrCc cc)) s
  | .call => runLines (formLines (.call)) s
  | .callCc cc => runLines (formLines (.callCc cc)) s
  | .ret => runLines (formLines (.ret)) s
  | .retCc cc => runLines (formLines (.retCc cc)) s
  | .reti => runLines (formLines (.reti)) s
  | .rst ttt => runLines (formLines (.rst ttt)) s
  | .rotR o src => runLines (formLines (.rotR o src)) s
  | .rotM o => runLines (formLines (.rotM o)) s
  | .bitR k src => runLines (formLines (.bitR k src)) s
  | .bitM k => runLines (formLines (.bitM k)) s
  | .resR k src => runLines (formLines (.resR k src)) s
  | .resM k => runLines (formLines (.resM k)) s
  | .setR k src => runLines (formLines (.setR k src)) s
  | .setM k => runLines (formLines (.setM k)) s

end Sys2Proof.Machine
end

