-- ==== Sys2Proof/Safety.lean ====
section
/-! DEFINITION. What the spec says of the states between two calls (30_encoding.md R90, 10_state.md R23, R38), and what counts as a safe run. -/

namespace Sys2Proof.Machine

/-- The counters of a record between two calls (R84 to R87, R90): its byte is an instruction's, `len` is that
instruction's length, at least one cycle remains, and the cycles run and those remaining make up the length, or the
not-taken length once c1 of a conditional instruction has run. -/
def Record.wf (r : Record) : Prop :=
  r.instr.wellFormed = true ∧ r.len = r.instr.form.cycles ∧ r.remaining ≠ 0 ∧
    (r.i.toNat + r.remaining.toNat = r.len.toNat ∨
      (r.i ≠ 0 ∧ ∃ short, r.instr.form.cyclesNotTaken = some short ∧ r.i.toNat + r.remaining.toNat = short.toNat))

/-- R38, R90: either a recorded decode fault and no record, or a record and no fault. A recorded fault names an
undefined byte, and PC is just past it (R260). -/
def State.recordOrFault (s : State) : Prop :=
  match s.fault, s.record with
  | none, some r => r.wf
  | some x, none => x.opcode ∈ undefinedBytes ∧ s.pc = x.addr + 1
  | none, none => False
  | some _, some _ => False

/-- R23: the low nibble of F is 0. -/
def State.flagsWf (s : State) : Prop := s.f &&& 0x0F#8 = 0x00#8

/-- R53: at most one read delegate and one write delegate per address. -/
def State.platformWf (s : State) : Prop := s.delegatedRead.Nodup ∧ s.delegatedWrite.Nodup

/-- What holds of the core between two calls. -/
structure State.Inv (s : State) : Prop where
  flags : s.flagsWf
  memory : Memory.wf s.mem
  platform : s.platformWf
  noPrefix : s.prefixPending = false
  shape : s.recordOrFault

/-- The core is stuck on a decode failure, R261. -/
def State.faulted (s : State) : Bool := s.fault.isSome

/-- A run of `k` machine cycles that no stop of the model ends and that records no decode fault. -/
def SafeRun (k : Nat) (s : State) : Prop :=
  ∃ s' : State, Host.Core.run Sys2Proof.core k s = .next s' ∧ s'.fault = none

/-- The current record is instruction `i`, freshly fetched: none of its cycles has run, and no fault is recorded
(R84, R88). -/
def State.freshlyFetched (s : State) (i : Instr) : Prop :=
  s.fault = none ∧ s.prefixPending = false ∧
    ∃ r, s.record = some r ∧ r.instr = i ∧ r.len = i.form.cycles ∧ r.remaining = i.form.cycles ∧ r.i = 0

/-- A read of address `addr` reaches the backing store: no read delegate stands there (R51). -/
def State.plainRead (s : State) (addr : Word) : Prop := addr ∉ s.delegatedRead

/-- A write to address `addr` reaches the backing store: no write delegate stands there (R52). -/
def State.plainWrite (s : State) (addr : Word) : Prop := addr ∉ s.delegatedWrite

/-! ### What an instruction may write, by form -/

/-- The indexed registers that an instruction of a form may write: R29 and the rule of each instruction. -/
def formDestinations : Form → List Reg8
  | .nop => [] | .halt => [] | .stop => [] | .di => [] | .ei => [] | .prefixCB => []
  | .ldRR dst _ => [dst] | .ldRN dst => [dst] | .ldRM dst => [dst] | .ldMR _ => [] | .ldMN => []
  | .ldABC => [.a] | .ldADE => [.a] | .ldBCA => [] | .ldDEA => [] | .ldANN => [.a] | .ldNNA => []
  | .ldhAN => [.a] | .ldhNA => [] | .ldAC => [.a] | .ldCA => []
  | .ldAHLI => [.a, .h, .l] | .ldAHLD => [.a, .h, .l] | .ldHLIA => [.h, .l] | .ldHLDA => [.h, .l]
  | .ldPairNN .bc => [.b, .c] | .ldPairNN .de => [.d, .e] | .ldPairNN .hl => [.h, .l] | .ldPairNN .sp => []
  | .ldNNSP => [] | .ldSPHL => [] | .push _ => []
  | .pop .bc => [.b, .c] | .pop .de => [.d, .e] | .pop .hl => [.h, .l] | .pop .af => [.a]
  | .aluR o _ => if o = .cp then [] else [.a]
  | .aluM o => if o = .cp then [] else [.a]
  | .aluN o => if o = .cp then [] else [.a]
  | .incR dst => [dst] | .incM => [] | .decR dst => [dst] | .decM => []
  | .daa => [.a] | .cpl => [.a] | .scf => [] | .ccf => [] | .rlca => [.a] | .rrca => [.a] | .rla => [.a] | .rra => [.a]
  | .incPair .bc => [.b, .c] | .incPair .de => [.d, .e] | .incPair .hl => [.h, .l] | .incPair .sp => []
  | .decPair .bc => [.b, .c] | .decPair .de => [.d, .e] | .decPair .hl => [.h, .l] | .decPair .sp => []
  | .addHL _ => [.h, .l] | .addSPE => [] | .ldHLSPE => [.h, .l]
  | .jp => [] | .jpCc _ => [] | .jpHL => [] | .jr => [] | .jrCc _ => []
  | .call => [] | .callCc _ => [] | .ret => [] | .retCc _ => [] | .reti => [] | .rst _ => []
  | .rotR _ src => [src] | .rotM _ => [] | .bitR _ _ => [] | .bitM _ => []
  | .resR _ src => [src] | .resM _ => [] | .setR _ src => [src] | .setM _ => []
  | .undefined _ => []

/-- Whether an instruction of a form may write SP: R31. -/
def formWritesSP : Form → Bool
  | .ldPairNN .sp => true | .ldSPHL => true | .incPair .sp => true | .decPair .sp => true | .addSPE => true
  | .push _ => true | .pop _ => true
  | .call => true | .callCc _ => true | .ret => true | .retCc _ => true | .reti => true | .rst _ => true
  | _ => false

/-- What a position of a flag string says: R12. -/
inductive FlagEffect where
  | kept | zero | one | computed
deriving DecidableEq, Repr

/-- A flag string, R12. -/
structure FlagString where
  z : FlagEffect
  n : FlagEffect
  h : FlagEffect
  c : FlagEffect
deriving DecidableEq, Repr

/-- `----`. -/
def noFlags : FlagString := ⟨.kept, .kept, .kept, .kept⟩

/-- The flag string of an accumulator operation: R92, R142. -/
def aluFlagString : AluOp → FlagString
  | .add => ⟨.computed, .zero, .computed, .computed⟩
  | .adc => ⟨.computed, .zero, .computed, .computed⟩
  | .sub => ⟨.computed, .one, .computed, .computed⟩
  | .sbc => ⟨.computed, .one, .computed, .computed⟩
  | .and => ⟨.computed, .zero, .one, .zero⟩
  | .xor => ⟨.computed, .zero, .zero, .zero⟩
  | .or => ⟨.computed, .zero, .zero, .zero⟩
  | .cp => ⟨.computed, .one, .computed, .computed⟩

/-- The flag string of a prefixed rotate or shift: R93, R230. -/
def rotFlagString (o : RotOp) : FlagString :=
  if o = .swap then ⟨.computed, .zero, .zero, .zero⟩ else ⟨.computed, .zero, .zero, .computed⟩

/-- The flag string of a form: R92, R93. -/
def formFlags : Form → FlagString
  | .aluR o _ => aluFlagString o
  | .aluM o => aluFlagString o
  | .aluN o => aluFlagString o
  | .incR _ => ⟨.computed, .zero, .computed, .kept⟩
  | .incM => ⟨.computed, .zero, .computed, .kept⟩
  | .decR _ => ⟨.computed, .one, .computed, .kept⟩
  | .decM => ⟨.computed, .one, .computed, .kept⟩
  | .daa => ⟨.computed, .kept, .zero, .computed⟩
  | .cpl => ⟨.kept, .one, .one, .kept⟩
  | .scf => ⟨.kept, .zero, .zero, .one⟩
  | .ccf => ⟨.kept, .zero, .zero, .computed⟩
  | .rlca => ⟨.zero, .zero, .zero, .computed⟩
  | .rrca => ⟨.zero, .zero, .zero, .computed⟩
  | .rla => ⟨.zero, .zero, .zero, .computed⟩
  | .rra => ⟨.zero, .zero, .zero, .computed⟩
  | .addHL _ => ⟨.kept, .zero, .computed, .computed⟩
  | .addSPE => ⟨.zero, .zero, .computed, .computed⟩
  | .ldHLSPE => ⟨.zero, .zero, .computed, .computed⟩
  | .pop .af => ⟨.computed, .computed, .computed, .computed⟩
  | .rotR o _ => rotFlagString o
  | .rotM o => rotFlagString o
  | .bitR _ _ => ⟨.computed, .zero, .one, .kept⟩
  | .bitM _ => ⟨.computed, .zero, .one, .kept⟩
  | _ => noFlags

/-- The machine cycle in which a form writes its flags: the last, but the cycle of the memory write where the
instruction writes back to (HL) (R86, R168, R230). -/
def formFlagCycle : Form → BitVec 3
  | .incM => 2
  | .decM => 2
  | .rotM _ => 2
  | f => f.cycles

/-- A flag obeys its position of a flag string, from its old value to its new one. -/
def FlagEffect.obeyed : FlagEffect → Bool → Bool → Prop
  | .kept, old, new => new = old
  | .zero, _, new => new = false
  | .one, _, new => new = true
  | .computed, _, _ => True

/-- The address that cycle `k` of a form stores a byte to, if it stores one, from the record and the state as that cycle
finds them: the expressions of the schedules. -/
def formStoreAddress (f : Form) (k : BitVec 3) (r : Record) (s : State) : Option Word :=
  match f with
  | .ldMR _ => if k = 1 then some s.hl else none
  | .ldMN => if k = 2 then some s.hl else none
  | .ldBCA => if k = 1 then some s.bc else none
  | .ldDEA => if k = 1 then some s.de else none
  | .ldNNA => if k = 3 then some (cat16 r.hi r.lo) else none
  | .ldhNA => if k = 2 then some (topPage r.n) else none
  | .ldCA => if k = 1 then some (topPage s.c) else none
  | .ldHLIA => if k = 1 then some s.hl else none
  | .ldHLDA => if k = 1 then some s.hl else none
  | .ldNNSP => if k = 3 then some (cat16 r.hi r.lo) else if k = 4 then some (cat16 r.hi r.lo + 1) else none
  | .push _ => if k = 2 ∨ k = 3 then some (s.sp - 1) else none
  | .incM => if k = 2 then some s.hl else none
  | .decM => if k = 2 then some s.hl else none
  | .call => if k = 4 ∨ k = 5 then some (s.sp - 1) else none
  | .callCc _ => if k = 4 ∨ k = 5 then some (s.sp - 1) else none
  | .rst _ => if k = 2 ∨ k = 3 then some (s.sp - 1) else none
  | .rotM _ => if k = 2 then some s.hl else none
  | .resM _ => if k = 2 then some s.hl else none
  | .setM _ => if k = 2 then some s.hl else none
  | _ => none

/-- The condition of a conditional instruction: R200. Other instructions are always taken. -/
def State.taken (s : State) : Form → Bool
  | .jpCc cc => s.cond cc
  | .jrCc cc => s.cond cc
  | .callCc cc => s.cond cc
  | .retCc cc => s.cond cc
  | _ => true

/-- The documented number of calls that an instruction takes: R289, R87. -/
def State.documentedCycles (s : State) (f : Form) : Nat :=
  if s.taken f then f.cycles.toNat else (f.cyclesNotTaken.getD f.cycles).toNat

end Sys2Proof.Machine
end

