-- ==== Sys2Proof/Certificates/Slice0/Obligations.lean ====
section
/-! DEFINITION. The statements for the provers: what the rules of spec/ say of the machine, by rule file. -/

open Sys2Proof Sys2Proof.Machine

/-- A bus read: the free draw of a delegated address, else the backing store, else 0. 20_memory.md, 1. The address space
and the bus contract, 20_memory.md, 4. What the core fixes of the address map. MemRead of a delegated address gives
READ_DRAW (a free value of the history, the cycle count and the address: the model's form of it, log 4); of any
other address it gives the backing store, and 0 where nothing was stored. It changes nothing but the record of
transactions (the model's own, log 5). -/
def Obligations.BusReadFollowsDelegateThenStore : Prop :=
  ∀ (s : State) (addr : Word),
    (addr ∈ s.delegatedRead → (s.memRead addr).1 = Config.readDraw Config.peripheralOrder s.bus s.cycles addr) ∧
    (addr ∉ s.delegatedRead → (s.memRead addr).1 = Memory.read s.mem addr) ∧
    Memory.read [] addr = 0x00#8 ∧
    (s.memRead addr).2 = { s with bus := .read addr (s.memRead addr).1 :: s.bus }

/-- A bus write: an event where a delegate stands, else the backing store takes the byte and no other address changes.
Rule R52. MemWrite to a delegated address leaves everything but the record of transactions unchanged. To any other
address it makes the backing store read v there and leaves every other address as it was. It always answers a state. -/
def Obligations.BusWriteStoresOrIsAnEvent : Prop :=
  ∀ (s : State) (addr : Word) (v : Byte),
    (addr ∈ s.delegatedWrite → s.memWrite addr v = { s with bus := .write addr v :: s.bus }) ∧
    (addr ∉ s.delegatedWrite → Memory.wf s.mem →
      Memory.read (s.memWrite addr v).mem addr = v ∧
      (∀ other, other ≠ addr → Memory.read (s.memWrite addr v).mem other = Memory.read s.mem other) ∧
      s.memWrite addr v = { s with mem := (s.memWrite addr v).mem, bus := .write addr v :: s.bus })

/-- A store is seen by the reads and the fetch of that address until another store to it. 20_memory.md, 3. Ordering,
atomicity and side effects, 70_reset_and_hazards.md, 3. Hazards. After a write of v to an address that no delegate
hides, and any number of writes to other addresses after it, the backing store holds v there: a data read and an
immediate read of it give v, and a fetch at it reads v as the opcode. The record is that of v in the table that
prefix-pending selects, or the decode fault names v. -/
def Obligations.StoreIsSeenByTheNextReadAndFetch : Prop :=
  ∀ (s : State) (addr : Word) (v : Byte) (later : List (Word × Byte)), Memory.wf s.mem → s.plainRead addr →
    s.plainWrite addr → (∀ w ∈ later, w.1 ≠ addr) →
    let u := later.foldl (fun x w => x.memWrite w.1 w.2) (s.memWrite addr v)
    let atIt := { u with pc := addr }
    (u.memRead addr).1 = v ∧ atIt.imm8.1 = v ∧
    (s.prefixPending = true → ∃ r, atIt.fetch.record = some r ∧ r.instr = decodePrefixed v ∧ r.op = v) ∧
    (s.prefixPending = false → ∀ i, decodeBase v = .ok i →
      ∃ r, atIt.fetch.record = some r ∧ r.instr = i ∧ r.op = v) ∧
    (s.prefixPending = false → v ∈ undefinedBytes → atIt.fetch.fault = some { opcode := v, addr := addr })

/-- Imm8, Push8 and Pop8: one access each, PC or SP moved by one. 30_encoding.md, 2. Immediates and operand fields,
20_memory.md, 3. Ordering, atomicity and side effects, 20_memory.md, 2. Access width, byte order and the stack.
Imm8() gives the byte the bus answers at PC, adds 1 to PC modulo 65536, makes exactly that one access and changes
nothing else. As an unsigned byte n the immediate forms the top-page address 0xFF00 + n. Push8(v) lowers SP by 1
modulo 65536 and writes v there; Pop8() reads the byte at SP and raises SP by 1. Nothing else changes but memory and
the record of transactions. -/
def Obligations.ImmediateAndStackPrimitives : Prop :=
  (∀ s : State,
    s.imm8.1 = s.readValue s.pc ∧
    s.imm8.2 = { s with pc := s.pc + 1, bus := .read s.pc (s.readValue s.pc) :: s.bus } ∧
    s.imm8.2.pc.toNat = (s.pc.toNat + 1) % 65536 ∧
    ∀ n : Byte, (topPage n).toNat = 0xFF00 + n.toNat) ∧
  (∀ (s : State) (v : Byte),
    s.push8 v = { s with
      sp := s.sp - 1
      mem := if s.sp - 1 ∈ s.delegatedWrite then s.mem else Memory.write s.mem (s.sp - 1) v
      bus := .write (s.sp - 1) v :: s.bus } ∧
    s.pop8.1 = s.readValue s.sp ∧
    s.pop8.2 = { s with sp := s.sp + 1, bus := .read s.sp (s.readValue s.sp) :: s.bus })

/-- A 16-bit push leaves the high byte above the low byte, and popping gives the word back. 20_memory.md, 2. Access
width, byte order and the stack, 42_load16_stack.md, PUSH qq and POP qq. Pushing hi8(v) and then lo8(v) leaves SP
two lower, the high byte at old SP - 1 and the low byte at old SP - 2; popping twice then gives the low byte, the
high byte and the old SP. -/
def Obligations.PushedWordIsPoppedBack : Prop :=
  ∀ (s : State) (v : Word), Memory.wf s.mem →
    s.plainWrite (s.sp - 1) → s.plainWrite (s.sp - 2) → s.plainRead (s.sp - 1) → s.plainRead (s.sp - 2) →
    let u := (s.push8 (hi8 v)).push8 (lo8 v)
    u.sp = s.sp - 2 ∧
    Memory.read u.mem (s.sp - 1) = hi8 v ∧
    Memory.read u.mem (s.sp - 2) = lo8 v ∧
    cat16 u.pop8.2.pop8.1 u.pop8.1 = v ∧
    u.pop8.2.pop8.2.sp = s.sp

/-- AF, BC, DE and HL are (high << 8) | low of their halves, and a write of a half shows at once. Rule R21. Each pair
view is 256 times its high half plus its low half, in every state; so after a write of one half the pair has the new
value. No pair view has storage of its own: two states with equal halves have equal pairs. -/
def Obligations.PairViewsAreComputedFromTheirHalves : Prop :=
  (∀ s : State,
    s.af.toNat = 256 * s.a.toNat + s.f.toNat ∧ s.bc.toNat = 256 * s.b.toNat + s.c.toNat ∧
    s.de.toNat = 256 * s.d.toNat + s.e.toNat ∧ s.hl.toNat = 256 * s.h.toNat + s.l.toNat) ∧
  (∀ (s : State) (v : Byte),
    ({ s with a := v }).af = cat16 v s.f ∧ ({ s with f := v }).af = cat16 s.a v ∧
    ({ s with b := v }).bc = cat16 v s.c ∧ ({ s with c := v }).bc = cat16 s.b v ∧
    ({ s with d := v }).de = cat16 v s.e ∧ ({ s with e := v }).de = cat16 s.d v ∧
    ({ s with h := v }).hl = cat16 v s.l ∧ ({ s with l := v }).hl = cat16 s.h v) ∧
  (∀ s t : State, s.a = t.a → s.f = t.f → s.b = t.b → s.c = t.c → s.d = t.d → s.e = t.e → s.h = t.h → s.l = t.l →
    s.af = t.af ∧ s.bc = t.bc ∧ s.de = t.de ∧ s.hl = t.hl)

/-- Writing a pair writes both halves and reads back; AF loses the low nibble of F. 10_state.md, 1. Register file. After
BC, DE or HL takes v its high half is hi8(v), its low half lo8(v) and it reads v; AF takes A = hi8(v) and F = lo8(v)
& 0xF0. A write of a pair changes no other field. (The masking of AF is an inference the spec marks as derived.) -/
def Obligations.PairWritesRoundTrip : Prop :=
  ∀ (s : State) (v : Word),
    (s.setBC v = { s with b := hi8 v, c := lo8 v } ∧ (s.setBC v).bc = v) ∧
    (s.setDE v = { s with d := hi8 v, e := lo8 v } ∧ (s.setDE v).de = v) ∧
    (s.setHL v = { s with h := hi8 v, l := lo8 v } ∧ (s.setHL v).hl = v) ∧
    (s.setAF v = { s with a := hi8 v, f := lo8 v &&& 0xF0#8 } ∧ (s.setAF v).af = v &&& 0xFFF0#16)

/-- A write of a register, a pair or a stack pair reads back and changes nothing else. 10_state.md, 1. Register file,
10_state.md, 2. Program counter and stack pointer. A write of one of B, C, D, E, H, L and A changes that register
and nothing else in the state; a write of a pair operand (BC, DE, HL, SP) or of a stack pair changes its two halves
(SP whole, AF with the low nibble 0) and nothing else, and reads back. -/
def Obligations.RegistersAreIndependentCells : Prop :=
  (∀ (s : State) (x y : Reg8) (v : Byte),
    (s.setReg x v).reg y = (if y = x then v else s.reg y) ∧
    s.setReg x v = { s with
      a := if x = .a then v else s.a
      b := if x = .b then v else s.b
      c := if x = .c then v else s.c
      d := if x = .d then v else s.d
      e := if x = .e then v else s.e
      h := if x = .h then v else s.h
      l := if x = .l then v else s.l }) ∧
  (∀ (s : State) (dd : Pair) (v : Word),
    (s.setPair dd v).pair dd = v ∧ (∀ ee, ee ≠ dd → (s.setPair dd v).pair ee = s.pair ee) ∧
    s.setPair dd v = { s with
      b := if dd = .bc then hi8 v else s.b
      c := if dd = .bc then lo8 v else s.c
      d := if dd = .de then hi8 v else s.d
      e := if dd = .de then lo8 v else s.e
      h := if dd = .hl then hi8 v else s.h
      l := if dd = .hl then lo8 v else s.l
      sp := if dd = .sp then v else s.sp }) ∧
  (∀ (s : State) (qq : StackPair) (v : Word),
    (s.setStackPair qq v).stackPair qq = (if qq = .af then v &&& 0xFFF0#16 else v) ∧
    (∀ pp, pp ≠ qq → (s.setStackPair qq v).stackPair pp = s.stackPair pp) ∧
    s.setStackPair qq v = { s with
      a := if qq = .af then hi8 v else s.a
      f := if qq = .af then lo8 v &&& 0xF0#8 else s.f
      b := if qq = .bc then hi8 v else s.b
      c := if qq = .bc then lo8 v else s.c
      d := if qq = .de then hi8 v else s.d
      e := if qq = .de then lo8 v else s.e
      h := if qq = .hl then hi8 v else s.h
      l := if qq = .hl then lo8 v else s.l })

/-- Writing one flag sets its bit of F, leaves the other seven, and no instruction writes a flag its flag string keeps.
Rule R25. F.Z, F.N, F.H and F.C read bits 7, 6, 5 and 4 of F. F.X <- b sets bit 7, 6, 5 or 4 of F for Z, N, H, C and
leaves every other bit of F and every other field alone. In every cycle of every instruction a flag at whose
position the flag string has - keeps its value. -/
def Obligations.FlagAccessorsTouchOneBit : Prop :=
  (∀ s : State, s.flagZ = s.f.getLsbD 7 ∧ s.flagN = s.f.getLsbD 6 ∧ s.flagH = s.f.getLsbD 5 ∧ s.flagC = s.f.getLsbD 4) ∧
  (∀ (s : State) (b : Bool) (k : Nat), k < 8 →
    (s.setFlagZ b).f.getLsbD k = (if k = 7 then b else s.f.getLsbD k) ∧
    (s.setFlagN b).f.getLsbD k = (if k = 6 then b else s.f.getLsbD k) ∧
    (s.setFlagH b).f.getLsbD k = (if k = 5 then b else s.f.getLsbD k) ∧
    (s.setFlagC b).f.getLsbD k = (if k = 4 then b else s.f.getLsbD k)) ∧
  (∀ (s : State) (b : Bool),
    s.setFlagZ b = { s with f := (s.setFlagZ b).f } ∧ s.setFlagN b = { s with f := (s.setFlagN b).f } ∧
    s.setFlagH b = { s with f := (s.setFlagH b).f } ∧ s.setFlagC b = { s with f := (s.setFlagC b).f }) ∧
  (∀ (i : Instr) (s t : State), exec i s = .next t →
    ((formFlags i.form).z = .kept → t.flagZ = s.flagZ) ∧ ((formFlags i.form).n = .kept → t.flagN = s.flagN) ∧
    ((formFlags i.form).h = .kept → t.flagH = s.flagH) ∧ ((formFlags i.form).c = .kept → t.flagC = s.flagC))

/-- NZ and Z test bit 7 of F, NC and C test bit 4. 45_control.md, 2. Conditions, 10_state.md, 1. Register file. Cond(NZ)
holds when Z is 0, Cond(Z) when it is 1, Cond(NC) when C is 0, Cond(C) when it is 1. -/
def Obligations.ConditionsReadZeroAndCarry : Prop :=
  ∀ s : State,
    (s.cond .nz = true ↔ s.f.getLsbD 7 = false) ∧ (s.cond .z = true ↔ s.f.getLsbD 7 = true) ∧
    (s.cond .nc = true ↔ s.f.getLsbD 4 = false) ∧ (s.cond .c = true ↔ s.f.getLsbD 4 = true)

/-- LD r,r', LD r,n and LD r,(HL): the register takes the source byte in the last cycle. 41_load8.md, 2. Register and
immediate loads, 41_load8.md, 3. Loads through HL. LD r,r' copies register r' into r in its one cycle (all 49
opcodes, d = s among them); LD r,n reads n in c1 and writes it to r in c2; LD r,(HL) reads the byte at HL in c1 and
writes it to r in c2, H and L among the destinations. Each cycle's whole next state is given, so nothing else
changes: no flag, no memory. The cycle placement is that of the rule's schedule (the spec's decisions D2 and D3). -/
def Obligations.LoadRegister : Prop :=
  (∀ (i : Instr) (dst src : Reg8), i.form = .ldRR dst src →
    encode i = [0b01#2 ++ dst.index ++ src.index] ∧ i.form.bytes = 1 ∧ i.form.cycles = 1 ∧
    ∀ (s : State) (r : Record), s.record = some r →
      (r.i = 1 → exec i s = .next (s.setReg dst (s.reg src)))) ∧
  (∀ (i : Instr) (dst : Reg8), i.form = .ldRN dst →
    encode i = [0b00#2 ++ dst.index ++ 0b110#3] ∧ i.form.bytes = 2 ∧ i.form.cycles = 2 ∧
    ∀ (s : State) (r : Record), s.record = some r →
      (r.i = 1 → exec i s = .next (s.imm8.2.setRecord { r with n := s.imm8.1 })) ∧
      (r.i = 2 → exec i s = .next (s.setReg dst r.n))) ∧
  (∀ (i : Instr) (dst : Reg8), i.form = .ldRM dst →
    encode i = [0b01#2 ++ dst.index ++ 0b110#3] ∧ i.form.bytes = 1 ∧ i.form.cycles = 2 ∧
    ∀ (s : State) (r : Record), s.record = some r →
      (r.i = 1 → exec i s = .next ((s.memRead s.hl).2.setRecord { r with t := (s.memRead s.hl).1 })) ∧
      (r.i = 2 → exec i s = .next (s.setReg dst r.t)))

/-- LD (HL),r and LD (HL),n: the byte goes to the address HL. 41_load8.md, 3. Loads through HL. LD (HL),r writes r (H
and L among the sources) at HL in c1; LD (HL),n reads n in c1 and writes it at HL in c2. The last cycle does
nothing. The cycle placement is that of the rule's schedule (the spec's decisions D2 and D3). -/
def Obligations.StoreToHL : Prop :=
  (∀ (i : Instr) (src : Reg8), i.form = .ldMR src →
    encode i = [0b01110#5 ++ src.index] ∧ i.form.bytes = 1 ∧ i.form.cycles = 2 ∧
    ∀ (s : State) (r : Record), s.record = some r →
      (r.i = 1 → exec i s = .next (s.memWrite s.hl (s.reg src))) ∧
      (r.i = 2 → exec i s = .next (s))) ∧
  (encode .ld_mHL_n = [0x36#8] ∧ (Instr.form .ld_mHL_n).bytes = 2 ∧ (Instr.form .ld_mHL_n).cycles = 3 ∧
    ∀ (s : State) (r : Record), s.record = some r →
      (r.i = 1 → exec .ld_mHL_n s = .next (s.imm8.2.setRecord { r with n := s.imm8.1 })) ∧
      (r.i = 2 → exec .ld_mHL_n s = .next (s.memWrite s.hl r.n)) ∧
      (r.i = 3 → exec .ld_mHL_n s = .next (s)))

/-- LD between A and (BC), (DE), (C), (HL+), (HL-): the access in c1, HL moving with it. 41_load8.md, 4. Accumulator
loads through BC, DE and absolute addresses, 41_load8.md, 5. Top-page loads, 41_load8.md, 6. Loads with HL
post-increment and post-decrement. The loads read their byte in c1, at BC, DE, 0xFF00 + C or HL, and write it to A
in c2; the stores write A in c1 and do nothing in c2. HL+ and HL- move HL by 1, modulo 65536, in the cycle of the
access. The cycle placement is that of the rule's schedule (the spec's decisions D2 and D3). -/
def Obligations.AccumulatorIndirectLoadsAndStores : Prop :=
  (encode .ld_A_mBC = [0x0A#8] ∧ (Instr.form .ld_A_mBC).bytes = 1 ∧ (Instr.form .ld_A_mBC).cycles = 2 ∧
    ∀ (s : State) (r : Record), s.record = some r →
      (r.i = 1 → exec .ld_A_mBC s = .next ((s.memRead (cat16 s.b s.c)).2.setRecord { r with t := (s.memRead (cat16 s.b s.c)).1 })) ∧
      (r.i = 2 → exec .ld_A_mBC s = .next ({ s with a := r.t }))) ∧
  (encode .ld_A_mDE = [0x1A#8] ∧ (Instr.form .ld_A_mDE).bytes = 1 ∧ (Instr.form .ld_A_mDE).cycles = 2 ∧
    ∀ (s : State) (r : Record), s.record = some r →
      (r.i = 1 → exec .ld_A_mDE s = .next ((s.memRead (cat16 s.d s.e)).2.setRecord { r with t := (s.memRead (cat16 s.d s.e)).1 })) ∧
      (r.i = 2 → exec .ld_A_mDE s = .next ({ s with a := r.t }))) ∧
  (encode .ld_A_mC = [0xF2#8] ∧ (Instr.form .ld_A_mC).bytes = 1 ∧ (Instr.form .ld_A_mC).cycles = 2 ∧
    ∀ (s : State) (r : Record), s.record = some r →
      (r.i = 1 → exec .ld_A_mC s = .next ((s.memRead (cat16 0xFF#8 s.c)).2.setRecord { r with t := (s.memRead (cat16 0xFF#8 s.c)).1 })) ∧
      (r.i = 2 → exec .ld_A_mC s = .next ({ s with a := r.t }))) ∧
  (encode .ld_A_mHLi = [0x2A#8] ∧ (Instr.form .ld_A_mHLi).bytes = 1 ∧ (Instr.form .ld_A_mHLi).cycles = 2 ∧
    ∀ (s : State) (r : Record), s.record = some r →
      (r.i = 1 → exec .ld_A_mHLi s = .next (((s.memRead s.hl).2.setRecord { r with t := (s.memRead s.hl).1 }).setHL (s.hl + 1))) ∧
      (r.i = 2 → exec .ld_A_mHLi s = .next ({ s with a := r.t }))) ∧
  (encode .ld_A_mHLd = [0x3A#8] ∧ (Instr.form .ld_A_mHLd).bytes = 1 ∧ (Instr.form .ld_A_mHLd).cycles = 2 ∧
    ∀ (s : State) (r : Record), s.record = some r →
      (r.i = 1 → exec .ld_A_mHLd s = .next (((s.memRead s.hl).2.setRecord { r with t := (s.memRead s.hl).1 }).setHL (s.hl - 1))) ∧
      (r.i = 2 → exec .ld_A_mHLd s = .next ({ s with a := r.t }))) ∧
  (encode .ld_mBC_A = [0x02#8] ∧ (Instr.form .ld_mBC_A).bytes = 1 ∧ (Instr.form .ld_mBC_A).cycles = 2 ∧
    ∀ (s : State) (r : Record), s.record = some r →
      (r.i = 1 → exec .ld_mBC_A s = .next (s.memWrite (cat16 s.b s.c) s.a)) ∧
      (r.i = 2 → exec .ld_mBC_A s = .next (s))) ∧
  (encode .ld_mDE_A = [0x12#8] ∧ (Instr.form .ld_mDE_A).bytes = 1 ∧ (Instr.form .ld_mDE_A).cycles = 2 ∧
    ∀ (s : State) (r : Record), s.record = some r →
      (r.i = 1 → exec .ld_mDE_A s = .next (s.memWrite (cat16 s.d s.e) s.a)) ∧
      (r.i = 2 → exec .ld_mDE_A s = .next (s))) ∧
  (encode .ld_mC_A = [0xE2#8] ∧ (Instr.form .ld_mC_A).bytes = 1 ∧ (Instr.form .ld_mC_A).cycles = 2 ∧
    ∀ (s : State) (r : Record), s.record = some r →
      (r.i = 1 → exec .ld_mC_A s = .next (s.memWrite (cat16 0xFF#8 s.c) s.a)) ∧
      (r.i = 2 → exec .ld_mC_A s = .next (s))) ∧
  (encode .ld_mHLi_A = [0x22#8] ∧ (Instr.form .ld_mHLi_A).bytes = 1 ∧ (Instr.form .ld_mHLi_A).cycles = 2 ∧
    ∀ (s : State) (r : Record), s.record = some r →
      (r.i = 1 → exec .ld_mHLi_A s = .next ((s.memWrite s.hl s.a).setHL (s.hl + 1))) ∧
      (r.i = 2 → exec .ld_mHLi_A s = .next (s))) ∧
  (encode .ld_mHLd_A = [0x32#8] ∧ (Instr.form .ld_mHLd_A).bytes = 1 ∧ (Instr.form .ld_mHLd_A).cycles = 2 ∧
    ∀ (s : State) (r : Record), s.record = some r →
      (r.i = 1 → exec .ld_mHLd_A s = .next ((s.memWrite s.hl s.a).setHL (s.hl - 1))) ∧
      (r.i = 2 → exec .ld_mHLd_A s = .next (s)))

/-- LD A,(nn), LD (nn),A, LDH A,(n), LDH (n),A: the address comes from the immediate. 41_load8.md, 4. Accumulator loads
through BC, DE and absolute addresses, 41_load8.md, 5. Top-page loads. The immediate is read low byte first; the
access is at cat16(hi, lo), or at 0xFF00 + n for LDH; LD A writes A in its last cycle, the stores write A in the
cycle before it. The cycle placement is that of the rule's schedule (the spec's decisions D2 and D3). -/
def Obligations.LoadAndStoreAccumulatorAbsolute : Prop :=
  (encode .ld_A_mnn = [0xFA#8] ∧ (Instr.form .ld_A_mnn).bytes = 3 ∧ (Instr.form .ld_A_mnn).cycles = 4 ∧
    ∀ (s : State) (r : Record), s.record = some r →
      (r.i = 1 → exec .ld_A_mnn s = .next (s.imm8.2.setRecord { r with lo := s.imm8.1 })) ∧
      (r.i = 2 → exec .ld_A_mnn s = .next (s.imm8.2.setRecord { r with hi := s.imm8.1 })) ∧
      (r.i = 3 → exec .ld_A_mnn s = .next ((s.memRead (cat16 r.hi r.lo)).2.setRecord { r with t := (s.memRead (cat16 r.hi r.lo)).1 })) ∧
      (r.i = 4 → exec .ld_A_mnn s = .next ({ s with a := r.t }))) ∧
  (encode .ld_mnn_A = [0xEA#8] ∧ (Instr.form .ld_mnn_A).bytes = 3 ∧ (Instr.form .ld_mnn_A).cycles = 4 ∧
    ∀ (s : State) (r : Record), s.record = some r →
      (r.i = 1 → exec .ld_mnn_A s = .next (s.imm8.2.setRecord { r with lo := s.imm8.1 })) ∧
      (r.i = 2 → exec .ld_mnn_A s = .next (s.imm8.2.setRecord { r with hi := s.imm8.1 })) ∧
      (r.i = 3 → exec .ld_mnn_A s = .next (s.memWrite (cat16 r.hi r.lo) s.a)) ∧
      (r.i = 4 → exec .ld_mnn_A s = .next (s))) ∧
  (encode .ldh_A_mn = [0xF0#8] ∧ (Instr.form .ldh_A_mn).bytes = 2 ∧ (Instr.form .ldh_A_mn).cycles = 3 ∧
    ∀ (s : State) (r : Record), s.record = some r →
      (r.i = 1 → exec .ldh_A_mn s = .next (s.imm8.2.setRecord { r with n := s.imm8.1 })) ∧
      (r.i = 2 → exec .ldh_A_mn s = .next ((s.memRead (cat16 0xFF#8 r.n)).2.setRecord { r with t := (s.memRead (cat16 0xFF#8 r.n)).1 })) ∧
      (r.i = 3 → exec .ldh_A_mn s = .next ({ s with a := r.t }))) ∧
  (encode .ldh_mn_A = [0xE0#8] ∧ (Instr.form .ldh_mn_A).bytes = 2 ∧ (Instr.form .ldh_mn_A).cycles = 3 ∧
    ∀ (s : State) (r : Record), s.record = some r →
      (r.i = 1 → exec .ldh_mn_A s = .next (s.imm8.2.setRecord { r with n := s.imm8.1 })) ∧
      (r.i = 2 → exec .ldh_mn_A s = .next (s.memWrite (cat16 0xFF#8 r.n) s.a)) ∧
      (r.i = 3 → exec .ldh_mn_A s = .next (s)))

/-- LD dd,nn, LD (nn),SP and LD SP,HL. 42_load16_stack.md, LD dd,nn, LD (nn),SP and LD SP,HL. LD dd,nn writes the pair
or SP whole in c3; LD (nn),SP writes lo8(SP) at nn in c3 and hi8(SP) at nn + 1 in c4; LD SP,HL copies HL in c2. The
byte order is the spec's decision D1. The cycle placement is that of the rule's schedule (the spec's decisions D2
and D3). -/
def Obligations.LoadPairAndStackPointer : Prop :=
  (∀ (i : Instr) (dd : Pair), i.form = .ldPairNN dd →
    encode i = [0b00#2 ++ dd.field ++ 0b0001#4] ∧ i.form.bytes = 3 ∧ i.form.cycles = 3 ∧
    ∀ (s : State) (r : Record), s.record = some r →
      (r.i = 1 → exec i s = .next (s.imm8.2.setRecord { r with lo := s.imm8.1 })) ∧
      (r.i = 2 → exec i s = .next (s.imm8.2.setRecord { r with hi := s.imm8.1 })) ∧
      (r.i = 3 → exec i s = .next (s.setPair dd (cat16 r.hi r.lo)))) ∧
  (encode .ld_mnn_SP = [0x08#8] ∧ (Instr.form .ld_mnn_SP).bytes = 3 ∧ (Instr.form .ld_mnn_SP).cycles = 5 ∧
    ∀ (s : State) (r : Record), s.record = some r →
      (r.i = 1 → exec .ld_mnn_SP s = .next (s.imm8.2.setRecord { r with lo := s.imm8.1 })) ∧
      (r.i = 2 → exec .ld_mnn_SP s = .next (s.imm8.2.setRecord { r with hi := s.imm8.1 })) ∧
      (r.i = 3 → exec .ld_mnn_SP s = .next (s.memWrite (cat16 r.hi r.lo) (lo8 s.sp))) ∧
      (r.i = 4 → exec .ld_mnn_SP s = .next (s.memWrite ((cat16 r.hi r.lo) + 1) (hi8 s.sp))) ∧
      (r.i = 5 → exec .ld_mnn_SP s = .next (s))) ∧
  (encode .ld_SP_HL = [0xF9#8] ∧ (Instr.form .ld_SP_HL).bytes = 1 ∧ (Instr.form .ld_SP_HL).cycles = 2 ∧
    ∀ (s : State) (r : Record), s.record = some r →
      (r.i = 1 → exec .ld_SP_HL s = .next (s)) ∧
      (r.i = 2 → exec .ld_SP_HL s = .next ({ s with sp := s.hl })))

/-- PUSH qq pushes the high byte in c2 and the low byte in c3; POP qq reads low then high and writes the pair in c3.
42_load16_stack.md, PUSH qq and POP qq, 20_memory.md, 2. Access width, byte order and the stack. PUSH and POP of BC,
DE, HL and AF. POP AF drops the low nibble of the popped byte. The cycle placement is that of the rule's schedule
(the spec's decisions D2 and D3). -/
def Obligations.PushAndPopPairs : Prop :=
  (∀ (i : Instr) (qq : StackPair), i.form = .push qq →
    encode i = [0b11#2 ++ qq.field ++ 0b0101#4] ∧ i.form.bytes = 1 ∧ i.form.cycles = 4 ∧
    ∀ (s : State) (r : Record), s.record = some r →
      (r.i = 1 → exec i s = .next (s)) ∧
      (r.i = 2 → exec i s = .next (s.push8 (hi8 (s.stackPair qq)))) ∧
      (r.i = 3 → exec i s = .next (s.push8 (lo8 (s.stackPair qq)))) ∧
      (r.i = 4 → exec i s = .next (s))) ∧
  (∀ (i : Instr) (qq : StackPair), i.form = .pop qq →
    encode i = [0b11#2 ++ qq.field ++ 0b0001#4] ∧ i.form.bytes = 1 ∧ i.form.cycles = 3 ∧
    ∀ (s : State) (r : Record), s.record = some r →
      (r.i = 1 → exec i s = .next (s.pop8.2.setRecord { r with lo := s.pop8.1 })) ∧
      (r.i = 2 → exec i s = .next (s.pop8.2.setRecord { r with hi := s.pop8.1 })) ∧
      (r.i = 3 → exec i s = .next (s.setStackPair qq (cat16 r.hi r.lo))))

/-- ADD, ADC, SUB, SBC, AND, XOR, OR, CP with a register, (HL) or n. 43_alu8.md, 1. Flag helpers, 43_alu8.md, 2.
Accumulator operations. Each writes its result to A (CP does not) and all four flags in its last cycle, from the
operand read in c1: a register in the one cycle, the byte at HL, or the immediate. No form writes memory. The cycle
placement is that of the rule's schedule (the spec's decisions D2 and D3). -/
def Obligations.AccumulatorOperations : Prop :=
  (∀ (i : Instr) (o : AluOp) (src : Reg8), i.form = .aluR o src →
    encode i = [0b10#2 ++ o.field ++ src.index] ∧ i.form.bytes = 1 ∧ i.form.cycles = 1 ∧
    ∀ (s : State) (r : Record), s.record = some r →
      (r.i = 1 → exec i s = .next (({ s with a := if o = AluOp.cp then s.a else (aluOut o s.a (s.reg src) s.flagC).v }).setZNHC (aluOut o s.a (s.reg src) s.flagC).z (aluOut o s.a (s.reg src) s.flagC).n (aluOut o s.a (s.reg src) s.flagC).h (aluOut o s.a (s.reg src) s.flagC).c))) ∧
  (∀ (i : Instr) (o : AluOp), i.form = .aluM o →
    encode i = [0b10#2 ++ o.field ++ 0b110#3] ∧ i.form.bytes = 1 ∧ i.form.cycles = 2 ∧
    ∀ (s : State) (r : Record), s.record = some r →
      (r.i = 1 → exec i s = .next ((s.memRead s.hl).2.setRecord { r with t := (s.memRead s.hl).1 })) ∧
      (r.i = 2 → exec i s = .next (({ s with a := if o = AluOp.cp then s.a else (aluOut o s.a r.t s.flagC).v }).setZNHC (aluOut o s.a r.t s.flagC).z (aluOut o s.a r.t s.flagC).n (aluOut o s.a r.t s.flagC).h (aluOut o s.a r.t s.flagC).c))) ∧
  (∀ (i : Instr) (o : AluOp), i.form = .aluN o →
    encode i = [0b11#2 ++ o.field ++ 0b110#3] ∧ i.form.bytes = 2 ∧ i.form.cycles = 2 ∧
    ∀ (s : State) (r : Record), s.record = some r →
      (r.i = 1 → exec i s = .next (s.imm8.2.setRecord { r with n := s.imm8.1 })) ∧
      (r.i = 2 → exec i s = .next (({ s with a := if o = AluOp.cp then s.a else (aluOut o s.a r.n s.flagC).v }).setZNHC (aluOut o s.a r.n s.flagC).z (aluOut o s.a r.n s.flagC).n (aluOut o s.a r.n s.flagC).h (aluOut o s.a r.n s.flagC).c)))

/-- The results and flags of ADD, ADC, SUB, SBC, CP, AND, XOR and OR over the integers and bit by bit. 43_alu8.md, 1.
Flag helpers. ADD, ADC, SUB, SBC and CP compute the sum or difference of A, the operand and (ADC, SBC) the carry
flag, modulo 256; Z says the result is 0; N says subtraction; H is the carry or borrow of the low nibbles and C that
of the bytes, carry-in counted. AND, XOR and OR work bit by bit with flags Z010, Z000, Z000. (The carry-in in H and
C, and the logic flags, are the spec's general knowledge.) -/
def Obligations.AccumulatorOperationFormulas : Prop :=
  (∀ (o : AluOp) (a b : Byte) (carry : Bool),
    let cin := if o = .adc ∨ o = .sbc then carry.toNat else 0
    let out := aluOut o a b carry
    ((o = .add ∨ o = .adc) →
      out.v.toNat = (a.toNat + b.toNat + cin) % 256 ∧ (out.z = true ↔ out.v.toNat = 0) ∧ out.n = false ∧
      (out.h = true ↔ a.toNat % 16 + b.toNat % 16 + cin > 15) ∧ (out.c = true ↔ a.toNat + b.toNat + cin > 255)) ∧
    ((o = .sub ∨ o = .sbc ∨ o = .cp) →
      (out.v.toNat + b.toNat + cin) % 256 = a.toNat ∧ (out.z = true ↔ out.v.toNat = 0) ∧ out.n = true ∧
      (out.h = true ↔ a.toNat % 16 < b.toNat % 16 + cin) ∧ (out.c = true ↔ a.toNat < b.toNat + cin))) ∧
  (∀ (a b : Byte) (carry : Bool),
    (∀ k < 8,
      (aluOut .and a b carry).v.getLsbD k = (a.getLsbD k && b.getLsbD k) ∧
      (aluOut .xor a b carry).v.getLsbD k = (a.getLsbD k ^^ b.getLsbD k) ∧
      (aluOut .or a b carry).v.getLsbD k = (a.getLsbD k || b.getLsbD k)) ∧
    (∀ o, o = .and ∨ o = .xor ∨ o = .or →
      ((aluOut o a b carry).z = true ↔ (aluOut o a b carry).v = 0x00#8) ∧ (aluOut o a b carry).n = false ∧
      (aluOut o a b carry).h = decide (o = .and) ∧ (aluOut o a b carry).c = false))

/-- INC r and DEC r: one cycle, Z0H- and Z1H-. 43_alu8.md, 3. 8-bit increment and decrement. INC r adds 1 modulo 256 and
DEC r subtracts 1; Z is set when the new value is 0, N is 0 for INC and 1 for DEC, H when the old low nibble was 0xF
(INC) or 0 (DEC); C and every other register are unchanged. -/
def Obligations.IncrementAndDecrementRegister : Prop :=
  (∀ (i : Instr) (dst : Reg8), i.form = .incR dst →
    encode i = [0b00#2 ++ dst.index ++ 0b100#3] ∧ i.form.bytes = 1 ∧ i.form.cycles = 1 ∧
    ∀ (s : State) (r : Record), s.record = some r →
      (r.i = 1 → exec i s = .next ((((s.setReg dst (s.reg dst + 1#8)).setFlagZ (s.reg dst + 1#8 == 0x00#8)).setFlagN false).setFlagH ((s.reg dst).toNat % 16 == 15)))) ∧
  (∀ (i : Instr) (dst : Reg8), i.form = .decR dst →
    encode i = [0b00#2 ++ dst.index ++ 0b101#3] ∧ i.form.bytes = 1 ∧ i.form.cycles = 1 ∧
    ∀ (s : State) (r : Record), s.record = some r →
      (r.i = 1 → exec i s = .next ((((s.setReg dst (s.reg dst - 1#8)).setFlagZ (s.reg dst - 1#8 == 0x00#8)).setFlagN true).setFlagH ((s.reg dst).toNat % 16 == 0))))

/-- INC (HL) and DEC (HL): read in c1, write and flags in c2. 43_alu8.md, 3. 8-bit increment and decrement. The byte at
HL is read in c1; c2 writes it plus or minus 1 at HL and the flags Z, N and H as for a register, C unchanged; c3
does nothing. Read and write are never in one cycle. The cycle placement is that of the rule's schedule (the spec's
decisions D2 and D3). -/
def Obligations.IncrementAndDecrementMemory : Prop :=
  (encode .inc_mHL = [0x34#8] ∧ (Instr.form .inc_mHL).bytes = 1 ∧ (Instr.form .inc_mHL).cycles = 3 ∧
    ∀ (s : State) (r : Record), s.record = some r →
      (r.i = 1 → exec .inc_mHL s = .next ((s.memRead s.hl).2.setRecord { r with t := (s.memRead s.hl).1 })) ∧
      (r.i = 2 → exec .inc_mHL s = .next ((((s.memWrite s.hl (r.t + 1#8)).setFlagZ (r.t + 1#8 == 0x00#8)).setFlagN false).setFlagH (r.t.toNat % 16 == 15))) ∧
      (r.i = 3 → exec .inc_mHL s = .next (s))) ∧
  (encode .dec_mHL = [0x35#8] ∧ (Instr.form .dec_mHL).bytes = 1 ∧ (Instr.form .dec_mHL).cycles = 3 ∧
    ∀ (s : State) (r : Record), s.record = some r →
      (r.i = 1 → exec .dec_mHL s = .next ((s.memRead s.hl).2.setRecord { r with t := (s.memRead s.hl).1 })) ∧
      (r.i = 2 → exec .dec_mHL s = .next ((((s.memWrite s.hl (r.t - 1#8)).setFlagZ (r.t - 1#8 == 0x00#8)).setFlagN true).setFlagH (r.t.toNat % 16 == 0))) ∧
      (r.i = 3 → exec .dec_mHL s = .next (s)))

/-- DAA after ADD or SUB of two BCD bytes gives the BCD sum or difference, with the decimal carry or borrow in C.
43_alu8.md, 4. Accumulator and flag operations. For all x, y below 100: ADD of their BCD bytes and then DAA leaves
the BCD of (x + y) mod 100, C exactly when x + y is 100 or more; SUB and then DAA leaves the BCD of (x - y) mod 100,
C exactly when x < y. This is what the algorithm of the DAA rule is for; the algorithm itself is general knowledge
of the spec. -/
def Obligations.DaaAdjustsDecimalAdditionAndSubtraction : Prop :=
  ∀ x y : Nat, x < 100 → y < 100 →
    let bcd := fun n : Nat => BitVec.ofNat 8 (16 * (n / 10) + n % 10)
    let add := aluOut .add (bcd x) (bcd y) false
    let sub := aluOut .sub (bcd x) (bcd y) false
    daaOut add.v add.n add.h add.c = (bcd ((x + y) % 100), decide (100 ≤ x + y)) ∧
    daaOut sub.v sub.n sub.h sub.c = (bcd ((x + 100 - y) % 100), decide (x < y))

/-- DAA, CPL, SCF, CCF: one cycle, one byte. 43_alu8.md, 4. Accumulator and flag operations. DAA writes A, Z, H = 0 and
C and keeps N; CPL complements A and sets N and H; SCF sets C and clears N and H; CCF complements C and clears N and
H; the other flags are kept. The correction of DAA: after an addition (N = 0) 0x60 is added when C is set or A >
0x99, and C becomes 1; then 0x06 when H is set or the low nibble of the adjusted value is above 9; after a
subtraction 0x60 is subtracted when C is set and 0x06 when H is set, and C is kept. (The flag strings and the
algorithm are general knowledge of the spec.) -/
def Obligations.AccumulatorAndFlagUnaries : Prop :=
  (encode .daa = [0x27#8] ∧ (Instr.form .daa).bytes = 1 ∧ (Instr.form .daa).cycles = 1 ∧
    ∀ (s : State) (r : Record), s.record = some r →
      (r.i = 1 → exec .daa s = .next (((({ s with a := (daaOut s.a s.flagN s.flagH s.flagC).1 }).setFlagZ ((daaOut s.a s.flagN s.flagH s.flagC).1 == 0x00#8)).setFlagH false).setFlagC (daaOut s.a s.flagN s.flagH s.flagC).2))) ∧
  (encode .cpl = [0x2F#8] ∧ (Instr.form .cpl).bytes = 1 ∧ (Instr.form .cpl).cycles = 1 ∧
    ∀ (s : State) (r : Record), s.record = some r →
      (r.i = 1 → exec .cpl s = .next ((({ s with a := ~~~s.a }).setFlagN true).setFlagH true))) ∧
  (encode .scf = [0x37#8] ∧ (Instr.form .scf).bytes = 1 ∧ (Instr.form .scf).cycles = 1 ∧
    ∀ (s : State) (r : Record), s.record = some r →
      (r.i = 1 → exec .scf s = .next (((s.setFlagN false).setFlagH false).setFlagC true))) ∧
  (encode .ccf = [0x3F#8] ∧ (Instr.form .ccf).bytes = 1 ∧ (Instr.form .ccf).cycles = 1 ∧
    ∀ (s : State) (r : Record), s.record = some r →
      (r.i = 1 → exec .ccf s = .next (((s.setFlagN false).setFlagH false).setFlagC (!s.flagC)))) ∧
  (∀ (a : Byte) (h c : Bool),
    (let high := c || decide (153 < a.toNat)
     let a1 := if high then BitVec.ofNat 8 (a.toNat + 96) else a
     let a2 := if h || decide (9 < a1.toNat % 16) then BitVec.ofNat 8 (a1.toNat + 6) else a1
     daaOut a false h c = (a2, high)) ∧
    (let a1 := if c then BitVec.ofNat 8 (a.toNat + 256 - 96) else a
     let a2 := if h then BitVec.ofNat 8 (a1.toNat + 256 - 6) else a1
     daaOut a true h c = (a2, c)))

/-- RLCA, RRCA, RLA, RRA: one cycle, flags 000C. 43_alu8.md, 5. Accumulator rotates. Each rotates A and sets C to the
bit that left; Z, N and H become 0 whatever the result. The cycle placement is that of the rule's schedule (the
spec's decisions D2 and D3). -/
def Obligations.AccumulatorRotates : Prop :=
  (encode .rlca = [0x07#8] ∧ (Instr.form .rlca).bytes = 1 ∧ (Instr.form .rlca).cycles = 1 ∧
    ∀ (s : State) (r : Record), s.record = some r →
      (r.i = 1 → exec .rlca s = .next (({ s with a := (rotOut .rlc s.a s.flagC).1 }).setZNHC false false false (rotOut .rlc s.a s.flagC).2))) ∧
  (encode .rrca = [0x0F#8] ∧ (Instr.form .rrca).bytes = 1 ∧ (Instr.form .rrca).cycles = 1 ∧
    ∀ (s : State) (r : Record), s.record = some r →
      (r.i = 1 → exec .rrca s = .next (({ s with a := (rotOut .rrc s.a s.flagC).1 }).setZNHC false false false (rotOut .rrc s.a s.flagC).2))) ∧
  (encode .rla = [0x17#8] ∧ (Instr.form .rla).bytes = 1 ∧ (Instr.form .rla).cycles = 1 ∧
    ∀ (s : State) (r : Record), s.record = some r →
      (r.i = 1 → exec .rla s = .next (({ s with a := (rotOut .rl s.a s.flagC).1 }).setZNHC false false false (rotOut .rl s.a s.flagC).2))) ∧
  (encode .rra = [0x1F#8] ∧ (Instr.form .rra).bytes = 1 ∧ (Instr.form .rra).cycles = 1 ∧
    ∀ (s : State) (r : Record), s.record = some r →
      (r.i = 1 → exec .rra s = .next (({ s with a := (rotOut .rr s.a s.flagC).1 }).setZNHC false false false (rotOut .rr s.a s.flagC).2)))

/-- Each rotate and shift bit by bit, with the bit that goes to the carry. 47_prefixed.md, 1. Rotates and shifts (group
00), 43_alu8.md, 5. Accumulator rotates. Left forms move bit k to k + 1 and bit 7 to the carry; right forms move bit
k + 1 to k and bit 0 to the carry. The vacated bit is bit 7 or 0 (RLC, RRC), the old carry (RL, RR), 0 (SLA, SRL) or
the kept bit 7 (SRA). SWAP exchanges the nibbles with carry 0. -/
def Obligations.RotatesAndShiftsByBits : Prop :=
  ∀ (x : Byte) (carry : Bool),
    (∀ o, o = .rlc ∨ o = .rl ∨ o = .sla →
      (rotOut o x carry).2 = x.getLsbD 7 ∧ ∀ k < 7, (rotOut o x carry).1.getLsbD (k + 1) = x.getLsbD k) ∧
    (∀ o, o = .rrc ∨ o = .rr ∨ o = .sra ∨ o = .srl →
      (rotOut o x carry).2 = x.getLsbD 0 ∧ ∀ k < 7, (rotOut o x carry).1.getLsbD k = x.getLsbD (k + 1)) ∧
    (rotOut .rlc x carry).1.getLsbD 0 = x.getLsbD 7 ∧ (rotOut .rl x carry).1.getLsbD 0 = carry ∧
    (rotOut .sla x carry).1.getLsbD 0 = false ∧
    (rotOut .rrc x carry).1.getLsbD 7 = x.getLsbD 0 ∧ (rotOut .rr x carry).1.getLsbD 7 = carry ∧
    (rotOut .sra x carry).1.getLsbD 7 = x.getLsbD 7 ∧ (rotOut .srl x carry).1.getLsbD 7 = false ∧
    (rotOut .swap x carry).2 = false ∧ ∀ k < 8, (rotOut .swap x carry).1.getLsbD k = x.getLsbD ((k + 4) % 8)

/-- INC dd, DEC dd and ADD HL,dd: the result in c2. 44_alu16.md, INC dd, DEC dd and ADD HL,dd. INC and DEC of BC, DE, HL
and SP change the pair by 1 modulo 65536 and no flag; ADD HL,dd writes HL = HL + dd modulo 65536, N = 0, H and C
from bits 11 and 15, and keeps Z. The cycle placement is that of the rule's schedule (the spec's decisions D2 and
D3). -/
def Obligations.SixteenBitArithmetic : Prop :=
  (∀ (i : Instr) (dd : Pair), i.form = .incPair dd →
    encode i = [0b00#2 ++ dd.field ++ 0b0011#4] ∧ i.form.bytes = 1 ∧ i.form.cycles = 2 ∧
    ∀ (s : State) (r : Record), s.record = some r →
      (r.i = 1 → exec i s = .next (s)) ∧
      (r.i = 2 → exec i s = .next (s.setPair dd (s.pair dd + 1)))) ∧
  (∀ (i : Instr) (dd : Pair), i.form = .decPair dd →
    encode i = [0b00#2 ++ dd.field ++ 0b1011#4] ∧ i.form.bytes = 1 ∧ i.form.cycles = 2 ∧
    ∀ (s : State) (r : Record), s.record = some r →
      (r.i = 1 → exec i s = .next (s)) ∧
      (r.i = 2 → exec i s = .next (s.setPair dd (s.pair dd - 1)))) ∧
  (∀ (i : Instr) (dd : Pair), i.form = .addHL dd →
    encode i = [0b00#2 ++ dd.field ++ 0b1001#4] ∧ i.form.bytes = 1 ∧ i.form.cycles = 2 ∧
    ∀ (s : State) (r : Record), s.record = some r →
      (r.i = 1 → exec i s = .next (s)) ∧
      (r.i = 2 → exec i s = .next ((((s.setHL (s.hl + s.pair dd)).setFlagN false).setFlagH (decide (s.hl.toNat % 4096 + (s.pair dd).toNat % 4096 > 4095))).setFlagC (decide (s.hl.toNat + (s.pair dd).toNat > 65535)))))

/-- ADD SP,e and LD HL,SP+e: signed displacement, flags 00HC from the low byte. 44_alu16.md, the SP-plus-displacement
helper, ADD SP,e and LD HL,SP+e. The result is SP plus the sign-extended displacement modulo 65536; H and C are the
carries out of bits 3 and 7 of the unsigned addition of e to the low byte of SP; Z and N become 0. LD HL,SP+e leaves
SP. The cycle placement is that of the rule's schedule (the spec's decisions D2 and D3). -/
def Obligations.StackPointerPlusDisplacement : Prop :=
  (encode .add_SP_e = [0xE8#8] ∧ (Instr.form .add_SP_e).bytes = 2 ∧ (Instr.form .add_SP_e).cycles = 4 ∧
    ∀ (s : State) (r : Record), s.record = some r →
      (r.i = 1 → exec .add_SP_e s = .next (s.imm8.2.setRecord { r with e := s.imm8.1 })) ∧
      (r.i = 2 → exec .add_SP_e s = .next (s)) ∧
      (r.i = 3 → exec .add_SP_e s = .next (s)) ∧
      (r.i = 4 → exec .add_SP_e s = .next (({ s with sp := BitVec.ofInt 16 (s.sp.toNat + r.e.toInt) }).setZNHC false false (decide (s.sp.toNat % 16 + r.e.toNat % 16 > 15)) (decide (s.sp.toNat % 256 + r.e.toNat > 255))))) ∧
  (encode .ld_HL_SPe = [0xF8#8] ∧ (Instr.form .ld_HL_SPe).bytes = 2 ∧ (Instr.form .ld_HL_SPe).cycles = 3 ∧
    ∀ (s : State) (r : Record), s.record = some r →
      (r.i = 1 → exec .ld_HL_SPe s = .next (s.imm8.2.setRecord { r with e := s.imm8.1 })) ∧
      (r.i = 2 → exec .ld_HL_SPe s = .next (s)) ∧
      (r.i = 3 → exec .ld_HL_SPe s = .next ((s.setHL (BitVec.ofInt 16 (s.sp.toNat + r.e.toInt))).setZNHC false false (decide (s.sp.toNat % 16 + r.e.toNat % 16 > 15)) (decide (s.sp.toNat % 256 + r.e.toNat > 255)))))

/-- JP nn, JP cc,nn and JP HL. 45_control.md, 3. Jumps. JP reads lo and hi and writes PC = cat16(hi, lo) in c4; JP cc
evaluates its condition in c1 and, when false, leaves 3 cycles in all; JP HL writes PC = HL in its one cycle. The
cycle placement is that of the rule's schedule (the spec's decisions D2 and D3). -/
def Obligations.AbsoluteJumps : Prop :=
  (encode .jp_nn = [0xC3#8] ∧ (Instr.form .jp_nn).bytes = 3 ∧ (Instr.form .jp_nn).cycles = 4 ∧
    ∀ (s : State) (r : Record), s.record = some r →
      (r.i = 1 → exec .jp_nn s = .next (s.imm8.2.setRecord { r with lo := s.imm8.1 })) ∧
      (r.i = 2 → exec .jp_nn s = .next (s.imm8.2.setRecord { r with hi := s.imm8.1 })) ∧
      (r.i = 3 → exec .jp_nn s = .next (s)) ∧
      (r.i = 4 → exec .jp_nn s = .next ({ s with pc := cat16 r.hi r.lo }))) ∧
  (∀ (i : Instr) (cc : Cond), i.form = .jpCc cc →
    encode i = [0b110#3 ++ cc.field ++ 0b010#3] ∧ i.form.bytes = 3 ∧ i.form.cycles = 4 ∧
    ∀ (s : State) (r : Record), s.record = some r →
      (r.i = 1 → exec i s = .next (s.imm8.2.setRecord { r with lo := s.imm8.1, remaining := if s.cond cc then r.remaining else 3 })) ∧
      (r.i = 2 → exec i s = .next (s.imm8.2.setRecord { r with hi := s.imm8.1 })) ∧
      (r.i = 3 → exec i s = .next (s)) ∧
      (r.i = 4 → exec i s = .next ({ s with pc := cat16 r.hi r.lo }))) ∧
  (encode .jp_HL = [0xE9#8] ∧ (Instr.form .jp_HL).bytes = 1 ∧ (Instr.form .jp_HL).cycles = 1 ∧
    ∀ (s : State) (r : Record), s.record = some r →
      (r.i = 1 → exec .jp_HL s = .next ({ s with pc := s.hl })))

/-- JR e and JR cc,e. 45_control.md, 3. Jumps. JR reads e in c1 and adds its sign extension to PC, which is past the
displacement, in c3; JR cc evaluates its condition in c1 and, when false, leaves 2 cycles in all. The cycle
placement is that of the rule's schedule (the spec's decisions D2 and D3). -/
def Obligations.RelativeJumps : Prop :=
  (encode .jr_e = [0x18#8] ∧ (Instr.form .jr_e).bytes = 2 ∧ (Instr.form .jr_e).cycles = 3 ∧
    ∀ (s : State) (r : Record), s.record = some r →
      (r.i = 1 → exec .jr_e s = .next (s.imm8.2.setRecord { r with e := s.imm8.1 })) ∧
      (r.i = 2 → exec .jr_e s = .next (s)) ∧
      (r.i = 3 → exec .jr_e s = .next ({ s with pc := BitVec.ofInt 16 (s.pc.toNat + r.e.toInt) }))) ∧
  (∀ (i : Instr) (cc : Cond), i.form = .jrCc cc →
    encode i = [0b001#3 ++ cc.field ++ 0b000#3] ∧ i.form.bytes = 2 ∧ i.form.cycles = 3 ∧
    ∀ (s : State) (r : Record), s.record = some r →
      (r.i = 1 → exec i s = .next (s.imm8.2.setRecord { r with e := s.imm8.1, remaining := if s.cond cc then r.remaining else 2 })) ∧
      (r.i = 2 → exec i s = .next (s)) ∧
      (r.i = 3 → exec i s = .next ({ s with pc := BitVec.ofInt 16 (s.pc.toNat + r.e.toInt) })))

/-- CALL nn, CALL cc,nn and RST t: PC pushed high byte first, then the target. 45_control.md, 4. Calls, returns and
restarts. CALL pushes hi8(PC) in c4 and lo8(PC) in c5, PC being past the instruction, and jumps in c6; CALL cc, when
its condition is false, leaves 3 cycles in all; RST pushes in c2 and c3 and jumps to 8 * ttt in c4. The cycle
placement is that of the rule's schedule (the spec's decisions D2 and D3). -/
def Obligations.CallsAndRestarts : Prop :=
  (encode .call_nn = [0xCD#8] ∧ (Instr.form .call_nn).bytes = 3 ∧ (Instr.form .call_nn).cycles = 6 ∧
    ∀ (s : State) (r : Record), s.record = some r →
      (r.i = 1 → exec .call_nn s = .next (s.imm8.2.setRecord { r with lo := s.imm8.1 })) ∧
      (r.i = 2 → exec .call_nn s = .next (s.imm8.2.setRecord { r with hi := s.imm8.1 })) ∧
      (r.i = 3 → exec .call_nn s = .next (s)) ∧
      (r.i = 4 → exec .call_nn s = .next (s.push8 (hi8 s.pc))) ∧
      (r.i = 5 → exec .call_nn s = .next (s.push8 (lo8 s.pc))) ∧
      (r.i = 6 → exec .call_nn s = .next ({ s with pc := cat16 r.hi r.lo }))) ∧
  (∀ (i : Instr) (cc : Cond), i.form = .callCc cc →
    encode i = [0b110#3 ++ cc.field ++ 0b100#3] ∧ i.form.bytes = 3 ∧ i.form.cycles = 6 ∧
    ∀ (s : State) (r : Record), s.record = some r →
      (r.i = 1 → exec i s = .next (s.imm8.2.setRecord { r with lo := s.imm8.1, remaining := if s.cond cc then r.remaining else 3 })) ∧
      (r.i = 2 → exec i s = .next (s.imm8.2.setRecord { r with hi := s.imm8.1 })) ∧
      (r.i = 3 → exec i s = .next (s)) ∧
      (r.i = 4 → exec i s = .next (s.push8 (hi8 s.pc))) ∧
      (r.i = 5 → exec i s = .next (s.push8 (lo8 s.pc))) ∧
      (r.i = 6 → exec i s = .next ({ s with pc := cat16 r.hi r.lo }))) ∧
  (∀ (i : Instr) (ttt : BitVec 3), i.form = .rst ttt →
    encode i = [0b11#2 ++ ttt ++ 0b111#3] ∧ i.form.bytes = 1 ∧ i.form.cycles = 4 ∧
    ∀ (s : State) (r : Record), s.record = some r →
      (r.i = 1 → exec i s = .next (s)) ∧
      (r.i = 2 → exec i s = .next (s.push8 (hi8 s.pc))) ∧
      (r.i = 3 → exec i s = .next (s.push8 (lo8 s.pc))) ∧
      (r.i = 4 → exec i s = .next ({ s with pc := BitVec.ofNat 16 (8 * ttt.toNat) })))

/-- RET, RET cc and RETI: PC popped low byte first. 45_control.md, 4. Calls, returns and restarts. RET pops lo in c1, hi
in c2 and writes PC in c4; RET cc evaluates its condition in c1, leaves 2 cycles in all when it is false, else pops
in c3 and c4 and writes PC in c5; RETI is RET that also sets IME in c4. The cycle placement is that of the rule's
schedule (the spec's decisions D2 and D3). -/
def Obligations.Returns : Prop :=
  (encode .ret = [0xC9#8] ∧ (Instr.form .ret).bytes = 1 ∧ (Instr.form .ret).cycles = 4 ∧
    ∀ (s : State) (r : Record), s.record = some r →
      (r.i = 1 → exec .ret s = .next (s.pop8.2.setRecord { r with lo := s.pop8.1 })) ∧
      (r.i = 2 → exec .ret s = .next (s.pop8.2.setRecord { r with hi := s.pop8.1 })) ∧
      (r.i = 3 → exec .ret s = .next (s)) ∧
      (r.i = 4 → exec .ret s = .next ({ s with pc := cat16 r.hi r.lo }))) ∧
  (∀ (i : Instr) (cc : Cond), i.form = .retCc cc →
    encode i = [0b110#3 ++ cc.field ++ 0b000#3] ∧ i.form.bytes = 1 ∧ i.form.cycles = 5 ∧
    ∀ (s : State) (r : Record), s.record = some r →
      (r.i = 1 → exec i s = .next (s.setRecord (if s.cond cc then r else { r with remaining := 2 }))) ∧
      (r.i = 2 → exec i s = .next (s)) ∧
      (r.i = 3 → exec i s = .next (s.pop8.2.setRecord { r with lo := s.pop8.1 })) ∧
      (r.i = 4 → exec i s = .next (s.pop8.2.setRecord { r with hi := s.pop8.1 })) ∧
      (r.i = 5 → exec i s = .next ({ s with pc := cat16 r.hi r.lo }))) ∧
  (encode .reti = [0xD9#8] ∧ (Instr.form .reti).bytes = 1 ∧ (Instr.form .reti).cycles = 4 ∧
    ∀ (s : State) (r : Record), s.record = some r →
      (r.i = 1 → exec .reti s = .next (s.pop8.2.setRecord { r with lo := s.pop8.1 })) ∧
      (r.i = 2 → exec .reti s = .next (s.pop8.2.setRecord { r with hi := s.pop8.1 })) ∧
      (r.i = 3 → exec .reti s = .next (s)) ∧
      (r.i = 4 → exec .reti s = .next ({ s with pc := cat16 r.hi r.lo, ime := true })))

/-- NOP, HALT, STOP, DI, EI and PREFIX: one byte, one cycle, at most the mode bits change. 46_system.md,
92_eei_decisions.md. HALT sets halt-mode and STOP stop-mode and neither stalls nor consumes a byte (the spec's
decisions D4 and D5); DI clears IME and IME-scheduled; EI sets IME-scheduled and leaves IME; PREFIX sets
prefix-pending (D6, D7, D15). The whole next state is given, so nothing else changes. -/
def Obligations.SystemInstructions : Prop :=
  (encode .nop = [0x00#8] ∧ (Instr.form .nop).bytes = 1 ∧ (Instr.form .nop).cycles = 1 ∧
    ∀ (s : State) (r : Record), s.record = some r →
      (r.i = 1 → exec .nop s = .next (s))) ∧
  (encode .halt = [0x76#8] ∧ (Instr.form .halt).bytes = 1 ∧ (Instr.form .halt).cycles = 1 ∧
    ∀ (s : State) (r : Record), s.record = some r →
      (r.i = 1 → exec .halt s = .next ({ s with haltMode := true }))) ∧
  (encode .stop = [0x10#8] ∧ (Instr.form .stop).bytes = 1 ∧ (Instr.form .stop).cycles = 1 ∧
    ∀ (s : State) (r : Record), s.record = some r →
      (r.i = 1 → exec .stop s = .next ({ s with stopMode := true }))) ∧
  (encode .di = [0xF3#8] ∧ (Instr.form .di).bytes = 1 ∧ (Instr.form .di).cycles = 1 ∧
    ∀ (s : State) (r : Record), s.record = some r →
      (r.i = 1 → exec .di s = .next ({ s with ime := false, imeScheduled := false }))) ∧
  (encode .ei = [0xFB#8] ∧ (Instr.form .ei).bytes = 1 ∧ (Instr.form .ei).cycles = 1 ∧
    ∀ (s : State) (r : Record), s.record = some r →
      (r.i = 1 → exec .ei s = .next ({ s with imeScheduled := true }))) ∧
  (encode .prefixCB = [0xCB#8] ∧ (Instr.form .prefixCB).bytes = 1 ∧ (Instr.form .prefixCB).cycles = 1 ∧
    ∀ (s : State) (r : Record), s.record = some r →
      (r.i = 1 → exec .prefixCB s = .next ({ s with prefixPending := true })))

/-- RLC, RRC, RL, RR, SLA, SRA, SWAP, SRL of a register and of (HL). 47_prefixed.md, 1. Rotates and shifts (group 00). A
register form rotates its register in one cycle; the (HL) form reads the byte in c1 and writes the result and the
flags in c2. Z is set from the result, N and H are 0, C is the bit that left. The cycle placement is that of the
rule's schedule (the spec's decisions D2 and D3). -/
def Obligations.PrefixedRotatesAndShifts : Prop :=
  (∀ (i : Instr) (o : RotOp) (src : Reg8), i.form = .rotR o src →
    encode i = [0xCB#8, 0b00#2 ++ o.field ++ src.index] ∧ i.form.bytes = 2 ∧ i.form.cycles = 1 ∧
    ∀ (s : State) (r : Record), s.record = some r →
      (r.i = 1 → exec i s = .next ((s.setReg src (rotOut o (s.reg src) s.flagC).1).setZNHC ((rotOut o (s.reg src) s.flagC).1 == 0x00#8) false false (rotOut o (s.reg src) s.flagC).2))) ∧
  (∀ (i : Instr) (o : RotOp), i.form = .rotM o →
    encode i = [0xCB#8, 0b00#2 ++ o.field ++ 0b110#3] ∧ i.form.bytes = 2 ∧ i.form.cycles = 3 ∧
    ∀ (s : State) (r : Record), s.record = some r →
      (r.i = 1 → exec i s = .next ((s.memRead s.hl).2.setRecord { r with t := (s.memRead s.hl).1 })) ∧
      (r.i = 2 → exec i s = .next ((s.memWrite s.hl (rotOut o r.t s.flagC).1).setZNHC ((rotOut o r.t s.flagC).1 == 0x00#8) false false (rotOut o r.t s.flagC).2)) ∧
      (r.i = 3 → exec i s = .next (s)))

/-- BIT b,r and BIT b,(HL): Z01-, no write. 47_prefixed.md, 2. Bit test, reset and set (groups 01, 10, 11). Z is set
when bit b of the operand is 0, N is 0, H is 1, C and the operand are unchanged. The (HL) form reads in c1 and makes
no write. The cycle placement is that of the rule's schedule (the spec's decisions D2 and D3). -/
def Obligations.BitTests : Prop :=
  (∀ (i : Instr) (k : BitVec 3) (src : Reg8), i.form = .bitR k src →
    encode i = [0xCB#8, 0b01#2 ++ k ++ src.index] ∧ i.form.bytes = 2 ∧ i.form.cycles = 1 ∧
    ∀ (s : State) (r : Record), s.record = some r →
      (r.i = 1 → exec i s = .next (((s.setFlagZ (!(s.reg src).getLsbD k.toNat)).setFlagN false).setFlagH true))) ∧
  (∀ (i : Instr) (k : BitVec 3), i.form = .bitM k →
    encode i = [0xCB#8, 0b01#2 ++ k ++ 0b110#3] ∧ i.form.bytes = 2 ∧ i.form.cycles = 2 ∧
    ∀ (s : State) (r : Record), s.record = some r →
      (r.i = 1 → exec i s = .next ((s.memRead s.hl).2.setRecord { r with t := (s.memRead s.hl).1 })) ∧
      (r.i = 2 → exec i s = .next (((s.setFlagZ (!r.t.getLsbD k.toNat)).setFlagN false).setFlagH true)))

/-- RES b,x and SET b,x for a register and for (HL). 47_prefixed.md, 2. Bit test, reset and set (groups 01, 10, 11). RES
clears and SET sets bit b of its operand; no flag is written. The (HL) forms read in c1 and write in c2, also when
the value does not change. The cycle placement is that of the rule's schedule (the spec's decisions D2 and D3). Bit
j of the byte after RES b is 0 for j = b and unchanged for every other j; after SET b it is 1 for j = b and
unchanged for every other j. -/
def Obligations.BitResetAndSet : Prop :=
  (∀ (i : Instr) (k : BitVec 3) (src : Reg8), i.form = .resR k src →
    encode i = [0xCB#8, 0b10#2 ++ k ++ src.index] ∧ i.form.bytes = 2 ∧ i.form.cycles = 1 ∧
    ∀ (s : State) (r : Record), s.record = some r →
      (r.i = 1 → exec i s = .next (s.setReg src (resBit (s.reg src) k)))) ∧
  (∀ (i : Instr) (k : BitVec 3), i.form = .resM k →
    encode i = [0xCB#8, 0b10#2 ++ k ++ 0b110#3] ∧ i.form.bytes = 2 ∧ i.form.cycles = 3 ∧
    ∀ (s : State) (r : Record), s.record = some r →
      (r.i = 1 → exec i s = .next ((s.memRead s.hl).2.setRecord { r with t := (s.memRead s.hl).1 })) ∧
      (r.i = 2 → exec i s = .next (s.memWrite s.hl (resBit r.t k))) ∧
      (r.i = 3 → exec i s = .next (s))) ∧
  (∀ (i : Instr) (k : BitVec 3) (src : Reg8), i.form = .setR k src →
    encode i = [0xCB#8, 0b11#2 ++ k ++ src.index] ∧ i.form.bytes = 2 ∧ i.form.cycles = 1 ∧
    ∀ (s : State) (r : Record), s.record = some r →
      (r.i = 1 → exec i s = .next (s.setReg src (setBit (s.reg src) k)))) ∧
  (∀ (i : Instr) (k : BitVec 3), i.form = .setM k →
    encode i = [0xCB#8, 0b11#2 ++ k ++ 0b110#3] ∧ i.form.bytes = 2 ∧ i.form.cycles = 3 ∧
    ∀ (s : State) (r : Record), s.record = some r →
      (r.i = 1 → exec i s = .next ((s.memRead s.hl).2.setRecord { r with t := (s.memRead s.hl).1 })) ∧
      (r.i = 2 → exec i s = .next (s.memWrite s.hl (setBit r.t k))) ∧
      (r.i = 3 → exec i s = .next (s))) ∧
  (∀ (x : Byte) (k : BitVec 3) (j : Nat), j < 8 →
    (resBit x k).getLsbD j = (if j = k.toNat then false else x.getLsbD j) ∧
    (setBit x k).getLsbD j = (if j = k.toNat then true else x.getLsbD j))

/-- Executing an UNDEFINED row records the decode fault and nothing else. 60_exceptions.md, 1. The decode fault,
notes/assumptions/13.md. An UNDEFINED row run as the current instruction leaves the fault slot at its byte and the
address before PC, no record, and everything else unchanged (the address is the model's reading, log 13). The driver
never builds such a record. -/
def Obligations.UndefinedRowsRaiseTheDecodeFault : Prop :=
  ∀ (i : Instr) (op : Byte), i.form = .undefined op →
    op ∈ undefinedBytes ∧ i.wellFormed = false ∧ encode i = [op] ∧
    ∀ s : State, exec i s = .next { s with fault := some { opcode := op, addr := s.pc - 1 }, record := none }

/-- Every instruction completes every cycle of its schedule, and has no other cycle. 00_scope.md, 4. Notation,
30_encoding.md, 4. The driver and the cycle machine, notes/assumptions/12.md. For every instruction of the two
tables and every state whose record is in cycle 1 to its length, exec answers a next state that keeps the record's
byte, table, length and cycle index; in any other cycle it stops with noScheduledCycle (the model's own stop, log
12). -/
def Obligations.EveryCycleOfEveryInstructionCompletes : Prop :=
  ∀ (i : Instr) (s : State) (r : Record), i.wellFormed = true → s.record = some r →
    (1 ≤ r.i.toNat → r.i.toNat ≤ i.form.cycles.toNat →
      ∃ (t : State) (r' : Record), exec i s = .next t ∧ t.record = some r' ∧
        r'.op = r.op ∧ r'.table = r.table ∧ r'.len = r.len ∧ r'.i = r.i) ∧
    (r.i.toNat = 0 ∨ i.form.cycles.toNat < r.i.toNat → exec i s = .fault .noScheduledCycle)

/-- No instruction writes a register that is not its destination, nor SP unless it is a stack or SP instruction.
10_state.md, 1. Register file, 10_state.md, 2. Program counter and stack pointer. In every cycle of every
instruction each of B, C, D, E, H, L and A that is not among its destinations is unchanged, and SP is unchanged
unless the instruction writes SP, pushes or pops. -/
def Obligations.RegisterFrameOfEveryInstruction : Prop :=
  ∀ (i : Instr) (s t : State), exec i s = .next t →
    (∀ x : Reg8, x ∉ formDestinations i.form → t.reg x = s.reg x) ∧
    (formWritesSP i.form = false → t.sp = s.sp)

/-- Flags change only in the cycle that writes them, and there as the flag string says. 00_scope.md, 4. Notation,
30_encoding.md, 5. The opcode maps. In every other cycle F is unchanged; in the cycle in which the instruction
writes its flags a kept flag keeps its value, 0 and 1 are forced, and the low nibble of F stays 0. -/
def Obligations.FlagStringsHold : Prop :=
  ∀ (i : Instr) (s t : State) (r : Record), i.wellFormed = true → s.record = some r → exec i s = .next t →
    (r.i ≠ formFlagCycle i.form → t.f = s.f) ∧
    (r.i = formFlagCycle i.form →
      (formFlags i.form).z.obeyed s.flagZ t.flagZ ∧ (formFlags i.form).n.obeyed s.flagN t.flagN ∧
      (formFlags i.form).h.obeyed s.flagH t.flagH ∧ (formFlags i.form).c.obeyed s.flagC t.flagC) ∧
    (s.f &&& 0x0F#8 = 0x00#8 → t.f &&& 0x0F#8 = 0x00#8)

/-- F has a zero low nibble after Reset and keeps it through every write of F and every step. Rule R23. A single-flag
write leaves bits 3 to 0 of F as they are; a write of all four flags and a write of AF leave them 0; a step from a
state where they are 0 leaves them 0; after Reset() they are 0. -/
def Obligations.LowNibbleOfFStaysZero : Prop :=
  (∀ s t : State, s.f &&& 0x0F#8 = 0x00#8 → step s = .next t → t.f &&& 0x0F#8 = 0x00#8) ∧
  (∀ s : State, s.resetCore.f &&& 0x0F#8 = 0x00#8) ∧
  (∀ (s : State) (b z n h c : Bool) (v : Word),
    (s.setFlagZ b).f &&& 0x0F#8 = s.f &&& 0x0F#8 ∧ (s.setFlagN b).f &&& 0x0F#8 = s.f &&& 0x0F#8 ∧
    (s.setFlagH b).f &&& 0x0F#8 = s.f &&& 0x0F#8 ∧ (s.setFlagC b).f &&& 0x0F#8 = s.f &&& 0x0F#8 ∧
    (s.setZNHC z n h c).f &&& 0x0F#8 = 0x00#8 ∧ (s.setAF v).f = lo8 v &&& 0xF0#8)

/-- Every cycle of every instruction changes at most the one byte its schedule stores to. 20_memory.md, 3. Ordering,
atomicity and side effects, 41_load8.md to 47_prefixed.md, the schedules. Where a cycle of an instruction stores to
address a (the schedule's own expression on the record and state that cycle finds) every other address reads as
before; in every other cycle all of memory is unchanged. -/
def Obligations.MemoryFrameOfEveryInstruction : Prop :=
  ∀ (i : Instr) (s t : State) (r : Record), s.record = some r → exec i s = .next t →
    match formStoreAddress i.form r.i r s with
    | none => t.mem = s.mem
    | some a => ∀ other : Word, other ≠ a → Memory.read t.mem other = Memory.read s.mem other

/-- Mode bits, fault slot, delegate sets and cycle count: who may change them. 10_state.md, 3. Mode bits, 46_system.md,
60_exceptions.md, 1. The decode fault. In every cycle of an instruction: only DI, EI and RETI may change IME or
IME-scheduled (EI not IME, RETI not IME-scheduled); only HALT changes halt-mode, only STOP stop-mode, only PREFIX
prefix-pending; none changes the fault slot, the delegate sets or the model's cycle count. -/
def Obligations.ModeFrameOfEveryInstruction : Prop :=
  ∀ (i : Instr) (s t : State), i.wellFormed = true → exec i s = .next t →
    (i ≠ .di → i ≠ .reti → t.ime = s.ime) ∧ (i ≠ .di → i ≠ .ei → t.imeScheduled = s.imeScheduled) ∧
    (i ≠ .halt → t.haltMode = s.haltMode) ∧ (i ≠ .stop → t.stopMode = s.stopMode) ∧
    (i ≠ .prefixCB → t.prefixPending = s.prefixPending) ∧ t.fault = s.fault ∧
    t.delegatedRead = s.delegatedRead ∧ t.delegatedWrite = s.delegatedWrite ∧ t.cycles = s.cycles

/-- Decode fails on the 11 undefined bytes and on no other. 30_encoding.md, 3. Decoding, 95_test_vectors.md, Part 1.
Decode rejects op by name exactly when op is one of the 11 bytes, and gives an instruction of the table otherwise.
(The list of the 11 bytes is general knowledge of the spec.) -/
def Obligations.DecodeFailsExactlyOnUndefinedBytes : Prop :=
  (∀ op : Byte, op ∈ undefinedBytes → decodeBase op = .error (.undefinedOpcode op)) ∧
  (∀ op : Byte, op ∉ undefinedBytes → ∃ i, decodeBase op = .ok i ∧ i.wellFormed = true) ∧
  undefinedBytes = [0xD3#8, 0xDB#8, 0xDD#8, 0xE3#8, 0xE4#8, 0xEB#8, 0xEC#8, 0xED#8, 0xF4#8, 0xFC#8, 0xFD#8]

/-- Decoding the encoding of an instruction gives it back, and every decoded byte is the encoding of what it decodes to.
30_encoding.md, 2. Immediates and operand fields, 30_encoding.md, 5. The opcode maps. For every instruction of the
two tables, decoding its opcode bytes, whatever bytes follow a prefixed or non-PREFIX one, gives it back; and the
instruction decoded from a byte encodes to that byte (after 0xCB in the prefixed table). -/
def Obligations.DecodeAndEncodeAgree : Prop :=
  (∀ i : Instr, i.wellFormed = true →
    decodeBytes (encode i) = .ok i ∧ (i ≠ .prefixCB → ∀ rest : List Byte, decodeBytes (encode i ++ rest) = .ok i)) ∧
  (∀ (op : Byte) (i : Instr), decodeBase op = .ok i → encode i = [op]) ∧
  (∀ op : Byte, encode (decodePrefixed op) = [0xCB#8, op])

/-- The base opcode map agrees with the ordered mask-and-compare rules. 30_encoding.md, 3. Decoding. For every byte the
base map gives the form that the ordered rules give, and fails where they fail. -/
def Obligations.DecodeMapsFollowTheOrderedRules : Prop :=
  ∀ op : Byte, decodeByRules op = (decodeBase op).toOption.map Instr.form

/-- DecodePrefixed gives an instruction for all 256 bytes, by the three fields alone, and is used only after PREFIX.
Rule R83. Every byte decodes in the second table to an instruction (never an undefined one), the one that the group,
bit and operand fields give; a fetch uses that table exactly when prefix-pending is set, and then never fails. -/
def Obligations.PrefixedDecodeIsTotalByFields : Prop :=
  (∀ op : Byte, (decodePrefixed op).wellFormed = true ∧ decodePrefixedByFields op = (decodePrefixed op).form) ∧
  (∀ s : State, s.prefixPending = true →
    ∃ r : Record, s.fetch.record = some r ∧ r.table = .prefixed ∧ r.instr = decodePrefixed (s.readValue s.pc) ∧
      s.fetch.fault = s.fault) ∧
  (∀ s : State, s.prefixPending = false → ∀ r : Record, s.fetch.record = some r → r.table = .base)

/-- Words written out from the encodings decode to their instructions. 30_encoding.md, 5. The opcode maps,
notes/assumptions/9.md. One or two words of every family, their bits written out from the patterns of the encoding
rules: a sanity statement. How a word of several bytes is laid out (bit 0 in the first byte, so the escape byte 0xCB
in the low byte) and that a word of 8 bits is read in the base table are the choice of the model (log 9, DESIGN
CHOICE), not of the encoding rules. -/
def Obligations.SampleWordsDecode : Prop :=
  decodeTableWord 8 0b01000001 = some .ld_B_C ∧ decodeTableWord 16 0b0000000000111110 = some .ld_A_n ∧
  decodeTableWord 8 0b11110101 = some .push_AF ∧ decodeTableWord 8 0b10011110 = some .sbc_A_mHL ∧
  decodeTableWord 8 0b00101001 = some .add_HL_HL ∧
  decodeTableWord 24 0b11011100 = some .call_C_nn ∧ decodeTableWord 8 0b11001011 = some .prefixCB ∧
  decodeTableWord 16 0b0011011011001011 = some .swap_mHL ∧ decodeTableWord 16 0b1100101111001011 = some .set_1_E ∧
  decodeTableWord 8 0b11010011 = none

/-- A step runs exec of the current instruction between the IME transfer and the count of remaining cycles.
30_encoding.md, 4. The driver and the cycle machine, 70_reset_and_hazards.md, 1. Reset, 60_exceptions.md, 1. The
decode fault. With no fault recorded and a record r, a step moves IME-scheduled into IME, adds 1 to rec.i (and to
the count of calls, which is no state of the core: R269, log 6), runs exec of r's instruction, takes 1 from
rec.remaining and fetches exactly when that is 0. This is AdvanceMachineCycle line by line. With a fault recorded a
step changes nothing but the count. The count is that of R283: it grows by 1 with every call, a stuck one included. -/
def Obligations.StepIsOneMachineCycle : Prop :=
  (∀ (s : State) (r : Record), s.fault = none → s.record = some r →
    step s =
      match exec (rowOf r.table r.op)
        { s with
          ime := if s.imeScheduled then true else s.ime
          imeScheduled := false
          record := some { r with i := r.i + 1 }
          cycles := s.cycles + 1 } with
      | .next u => .next u.endCycle
      | .fault x => .fault x
      | .refused x => .refused x) ∧
  (∀ (u : State) (r : Record), u.record = some r →
    (r.remaining ≠ 1 → u.endCycle = { u with record := some { r with remaining := r.remaining - 1 } }) ∧
    (r.remaining = 1 → u.endCycle = ({ u with record := some { r with remaining := 0 } }).fetch)) ∧
  (∀ s : State, s.fault.isSome = true → step s = .next { s with cycles := s.cycles + 1 }) ∧
  (∀ (k : Nat) (s t : State), Host.Core.run Sys2Proof.core k s = .next t → t.cycles = s.cycles + k)

/-- Fetch reads the byte at PC, moves PC past it and builds its record, or raises DecodeFault. 30_encoding.md, 4. The
driver and the cycle machine, 60_exceptions.md, 1. The decode fault, 60_exceptions.md, 2. Interrupts. A fetch makes
one read, at PC, and adds 1 to PC. With prefix-pending it clears it and builds the prefixed record; else it builds
the base record, or for an undefined byte records the fault with the address read from and leaves no record. A new
record has the decoded length in len and remaining and i = 0. The interrupt hook changes nothing. -/
def Obligations.FetchDecodesTheByteAtPC : Prop :=
  ∀ s : State,
    let op := s.readValue s.pc
    let read := { s with pc := s.pc + 1, bus := .read s.pc op :: s.bus }
    (∀ x : State, x.interruptHook = x) ∧
    (s.prefixPending = true → ∃ r : Record, s.fetch = { read with prefixPending := false, record := some r } ∧
      r.op = op ∧ r.table = .prefixed ∧ r.instr = decodePrefixed op ∧ r.len = r.instr.form.cycles ∧
      r.remaining = r.len ∧ r.i = 0) ∧
    (s.prefixPending = false → ∀ i, decodeBase op = .ok i → ∃ r : Record, s.fetch = { read with record := some r } ∧
      r.op = op ∧ r.table = .base ∧ r.instr = i ∧ r.len = i.form.cycles ∧ r.remaining = r.len ∧ r.i = 0) ∧
    (s.prefixPending = false → op ∈ undefinedBytes →
      s.fetch = { read with fault := some { opcode := op, addr := s.pc }, record := none })

/-- When the byte at PC decodes to an instruction, fetch it and the next step runs exec of exactly that instruction.
30_encoding.md, 4. The driver and the cycle machine. From a state with no prefix pending and no fault, whose byte at
PC decodes to i: the step after the fetch is exec of i on the fetched state at cycle 1, followed by the end of the
cycle. For the 0xCB escape the byte after it is run from the prefixed table. -/
def Obligations.StepRunsTheInstructionAtPC : Prop :=
  (∀ (s : State) (i : Instr), s.prefixPending = false → s.fault = none → decodeBase (s.readValue s.pc) = .ok i →
    ∃ r : Record, s.fetch.record = some r ∧ r.i = 0 ∧
      step s.fetch =
        match exec i (s.fetch.beginCycle r) with
        | .next u => .next u.endCycle
        | .fault x => .fault x
        | .refused x => .refused x) ∧
  (∀ s : State, s.prefixPending = true → s.fault = none →
    ∃ r : Record, s.fetch.record = some r ∧ r.i = 0 ∧
      step s.fetch =
        match exec (decodePrefixed (s.readValue s.pc)) (s.fetch.beginCycle r) with
        | .next u => .next u.endCycle
        | .fault x => .fault x
        | .refused x => .refused x)

/-- PREFIX and the byte after it: one step, and the record is that byte's instruction of the prefixed table.
46_system.md, 30_encoding.md, 4. The driver and the cycle machine. From a freshly fetched PREFIX one step ends with
prefix-pending false again, PC past the byte after 0xCB, no fault whatever that byte is, and the record of
DecodePrefixed of that byte, no cycle of it run. -/
def Obligations.PrefixSelectsThePrefixedTable : Prop :=
  ∀ s : State, s.freshlyFetched .prefixCB →
    ∃ (t : State) (r : Record), step s = .next t ∧ t.prefixPending = false ∧ t.fault = none ∧ t.pc = s.pc + 1 ∧
      t.record = some r ∧ r.table = .prefixed ∧ r.i = 0 ∧ t.mem = s.mem ∧ t.f = s.f ∧
      (s.plainRead s.pc → r.instr = decodePrefixed (Memory.read s.mem s.pc))

/-- The invariant of the states between two calls holds after reset. 10_state.md, 5. Reset values, 30_encoding.md, 4.
The driver and the cycle machine, 60_exceptions.md, 1. The decode fault, notes/assumptions/3.md. State.reset, and
the state after Reset() from any state whose memory is canonical and whose delegate lists are sets, meet the
invariant: the low nibble of F is 0, memory is canonical, the delegate lists are sets, no prefix is pending, and
there is either a well-formed record and no fault, or a recorded decode fault of an undefined byte, PC just past it,
and no record (as Reset() leaves it where the byte at 0x0100 is undefined). (That State.reset has no delegates is
the choice of the model, log 3.) -/
def Obligations.InvariantHoldsAfterReset : Prop :=
  State.reset.Inv ∧ ∀ s : State, Memory.wf s.mem → s.platformWf → s.resetCore.Inv

/-- From every state that meets the invariant a step answers a next state that meets it. 10_state.md, 1. Register file,
30_encoding.md, 4. The driver and the cycle machine, 60_exceptions.md, 1. The decode fault. The invariant: F's low
nibble is 0 (R23), memory is canonical, the delegate sets are sets, no prefix is pending between calls, and there is
either a record with at least one cycle remaining and the counters of its instruction, or a recorded fault that
names an undefined byte with PC just past it. The core never stops otherwise: no instruction raises anything. -/
def Obligations.StepKeepsTheInvariantAndNeverStops : Prop :=
  ∀ s : State, s.Inv → ∃ t : State, step s = .next t ∧ t.Inv

/-- With a recorded fault a call of AdvanceMachineCycle changes no state of the core; Reset clears the fault.
60_exceptions.md, 1. The decode fault, 70_reset_and_hazards.md, 1. Reset. While the fault slot is full a step
answers the same state but for the count of calls, which is no state of the core (R269, R283, log 6), and k steps
raise that count by k; Reset() clears the slot unless its own initial fetch reads an undefined byte, and then
records address 0x0100. -/
def Obligations.FaultedCoreIsStuckUntilReset : Prop :=
  ∀ s : State, s.fault.isSome = true →
    step s = .next { s with cycles := s.cycles + 1 } ∧
    (∀ k : Nat, Host.Core.run Sys2Proof.core k s = .next { s with cycles := s.cycles + k }) ∧
    (decodeBase (s.resetRegisters.readValue 0x0100#16) ≠ .error (.undefinedOpcode (s.resetRegisters.readValue 0x0100#16)) →
      s.resetCore.fault = none) ∧
    (s.resetRegisters.readValue 0x0100#16 ∈ undefinedBytes →
      s.resetCore.fault = some { opcode := s.resetRegisters.readValue 0x0100#16, addr := 0x0100#16 })

/-- Reset gives the registers and mode bits their values, keeps memory and the delegates, and forgets the state before.
70_reset_and_hazards.md, 1. Reset, 10_state.md, 5. Reset values, 92_eei_decisions.md, D9, notes/assumptions/3.md,
notes/assumptions/4.md, notes/assumptions/5.md, notes/assumptions/6.md, notes/assumptions/7.md,
notes/assumptions/11.md. After Reset() from any state: A=01 F=B0 B=00 C=13 D=00 E=D8 H=01 L=4D SP=FFFE, PC=0101
after the one fetch at 0100, all five mode bits false (the spec's decision D9); memory and the delegate sets as
before. State.reset is that state over unwritten memory without delegates (the model's choice, log 3). The count of
calls is 0: the initial fetch is no machine cycle. Two states over the same bus (memory, delegate sets, history) are
the same after Reset(), whatever instruction, fault or registers they held: the record in progress is discarded
unfinished. That clause, and the equality with State.reset, are the model's choice in this: the new record's
unwritten scratch bytes, and in the comparison of two states the byte a delegate may answer with at 0100, are equal
because the model draws them as functions of the history and the count (logs 4 and 7; the history is log 5, the
count log 6); the spec does not say that two such draws are equal. Reset() as a driver call is log 11. -/
def Obligations.ResetLeavesTheDocumentedState : Prop :=
  (∀ s : State,
    s.resetCore.a = 0x01#8 ∧ s.resetCore.f = 0xB0#8 ∧ s.resetCore.b = 0x00#8 ∧ s.resetCore.c = 0x13#8 ∧
    s.resetCore.d = 0x00#8 ∧ s.resetCore.e = 0xD8#8 ∧ s.resetCore.h = 0x01#8 ∧ s.resetCore.l = 0x4D#8 ∧
    s.resetCore.sp = 0xFFFE#16 ∧ s.resetCore.pc = 0x0101#16 ∧ s.resetCore.ime = false ∧
    s.resetCore.imeScheduled = false ∧ s.resetCore.haltMode = false ∧ s.resetCore.stopMode = false ∧
    s.resetCore.prefixPending = false ∧ s.resetCore.cycles = 0 ∧ s.resetCore.mem = s.mem ∧ s.resetCore.delegatedRead = s.delegatedRead ∧
    s.resetCore.delegatedWrite = s.delegatedWrite ∧
    s.resetCore.bus = .read 0x0100#16 (s.resetRegisters.readValue 0x0100#16) :: s.bus) ∧
  (∀ s : State, s.mem = [] → s.delegatedRead = [] → s.delegatedWrite = [] → s.bus = [] → s.resetCore = State.reset) ∧
  (∀ s t : State, s.mem = t.mem → s.delegatedRead = t.delegatedRead → s.delegatedWrite = t.delegatedWrite →
    s.bus = t.bus →
    s.resetCore = t.resetCore ∧ driverCall .reset s = .next t.resetCore)

/-- Every instruction takes exactly its documented number of calls, taken or not taken. 30_encoding.md, 4. The driver
and the cycle machine, 70_reset_and_hazards.md, 4. Timing, 95_test_vectors.md, Part 1. From a state that meets the
invariant with a freshly fetched instruction, whose documented length (not-taken length when its condition fails) is
n: after each k < n calls the same instruction is current with k cycles run; after n calls its successor has been
fetched, a new record with no cycle run, or a decode fault is recorded. -/
def Obligations.DocumentedCycleCounts : Prop :=
  ∀ (s : State) (i : Instr), s.Inv → i.wellFormed = true → s.freshlyFetched i →
    (∀ k < s.documentedCycles i.form, ∃ (u : State) (r : Record),
      Host.Core.run Sys2Proof.core k s = .next u ∧ u.fault = none ∧ u.record = some r ∧ r.instr = i ∧ r.i.toNat = k) ∧
    ∃ t : State, Host.Core.run Sys2Proof.core (s.documentedCycles i.form) s = .next t ∧
      (t.fault.isSome = true ∨ ∃ r : Record, t.record = some r ∧ r.i = 0)

/-- A call makes at most one bus access. 20_memory.md, 3. Ordering, atomicity and side effects. From every state that
meets the invariant a step adds at most one transaction to the history of the bus, the fetch counted: the last cycle
of every instruction makes none of its own. -/
def Obligations.AtMostOneBusAccessPerCall : Prop :=
  ∀ s t : State, s.Inv → step s = .next t → t.bus = s.bus ∨ ∃ x : BusAccess, t.bus = x :: s.bus

/-- IME-scheduled is true between two calls only right after EI's cycle, and becomes IME at the start of the next call.
30_encoding.md, 4. The driver and the cycle machine, 46_system.md. If a step leaves IME-scheduled true, the
instruction it ran was EI, which leaves IME as the transfer left it. A call that starts with IME-scheduled true runs
its cycle on a state in which IME is true and IME-scheduled false, all else but the record's cycle index and the
model's cycle count being as before; so IME is true after it, whatever the instruction but DI, and after DI, which
clears what the transfer set, both are false (the spec's decisions D6 and D7). -/
def Obligations.ScheduledEnableOnlyAfterEI : Prop :=
  (∀ s t : State, s.fault = none → step s = .next t → t.imeScheduled = true →
    ∃ r : Record, s.record = some r ∧ r.instr = .ei ∧ t.ime = (s.ime || s.imeScheduled)) ∧
  (∀ (s : State) (r : Record), s.fault = none → s.imeScheduled = true → s.record = some r →
    ∃ c : State,
      c = { s with
        ime := true
        imeScheduled := false
        record := some { r with i := r.i + 1 }
        cycles := s.cycles + 1 } ∧
      step s =
        match exec r.instr c with
        | .next u => .next u.endCycle
        | .fault x => .fault x
        | .refused x => .refused x) ∧
  (∀ (s t : State), s.fault = none → s.imeScheduled = true → step s = .next t →
    ∀ r : Record, s.record = some r → r.instr ≠ .di → t.ime = true) ∧
  (∀ (s t : State), s.fault = none → step s = .next t →
    ∀ r : Record, s.record = some r → r.instr = .di → t.ime = false ∧ t.imeScheduled = false)

/-- No step reads halt-mode, stop-mode or IME. 10_state.md, 3. Mode bits, 60_exceptions.md, 2. Interrupts,
60_exceptions.md, 3. Privilege, timers, devices, multiprocessing, debug and power, 92_eei_decisions.md, D4,
92_eei_decisions.md, D5, 92_eei_decisions.md, D14, notes/assumptions/4.md, notes/assumptions/5.md,
notes/assumptions/6.md, notes/assumptions/7.md. Two states that differ only in halt-mode, stop-mode and IME step to
states that differ at most in those three bits: the core never sleeps, waits or masks anything. That HALT and STOP
stall nothing, so that no step reads their bits, is the decision D4 and D5 of the spec, and that no interrupt is
dispatched, so that none reads IME, its decision D14. The statement compares two steps, and there it rests on the
model's choice: the two make the same delegated reads and their new records hold the same unwritten scratch bytes
because the model draws both as functions of the history and the count, in which the two states agree (logs 4 and 7;
the history is log 5, the count log 6); the spec does not say that two such draws are equal. -/
def Obligations.NothingReadsHaltStopOrIme : Prop :=
  ∀ (s t : State) (x y z : Bool), step s = .next t →
    ∃ x' y' z' : Bool, step { s with haltMode := x, stopMode := y, ime := z } =
      .next { t with haltMode := x', stopMode := y', ime := z' }

/-- CALL nn and CALL cc,nn, whole: six calls and a push when taken, three calls and no stack access when not.
45_control.md, 4. Calls, returns and restarts, 95_test_vectors.md, Part 1. From a freshly fetched CALL, or a
conditional call whose condition holds, with no read delegate at its immediate bytes: after six calls the core has
fetched from the target cat16(hi, lo), SP is two lower, memory is that of the two pushes of the address after the
instruction, and the registers and F are unchanged; where no write delegate stands at the two stack bytes, the byte
at old SP - 1 is the high byte of that address, the one at old SP - 2 its low byte, and every other address reads as
before. A conditional call whose condition fails has, after three calls, fetched from the byte after the
instruction, with SP, memory, the registers and F unchanged, and its only accesses were the two immediate reads and
the fetch. -/
def Obligations.CallsPushAndJumpOrFallThrough : Prop :=
  (∀ (s : State) (i : Instr), (i = .call_nn ∨ ∃ cc, i.form = .callCc cc ∧ s.cond cc = true) → s.freshlyFetched i →
    s.plainRead s.pc → s.plainRead (s.pc + 1) →
    ∃ u : State, Host.Core.run Sys2Proof.core 6 s = .next u.fetch ∧
      u.pc = cat16 (Memory.read s.mem (s.pc + 1)) (Memory.read s.mem s.pc) ∧ u.sp = s.sp - 2 ∧
      u.mem = ((s.push8 (hi8 (s.pc + 2))).push8 (lo8 (s.pc + 2))).mem ∧
      (∀ x : Reg8, u.reg x = s.reg x) ∧ u.f = s.f ∧
      (Memory.wf s.mem → s.plainWrite (s.sp - 1) → s.plainWrite (s.sp - 2) →
        Memory.read u.mem (s.sp - 1) = hi8 (s.pc + 2) ∧ Memory.read u.mem (s.sp - 2) = lo8 (s.pc + 2)) ∧
      (∀ other : Word, other ≠ s.sp - 1 → other ≠ s.sp - 2 → Memory.read u.mem other = Memory.read s.mem other)) ∧
  (∀ (s : State) (i : Instr) (cc : Cond), i.form = .callCc cc → s.cond cc = false → s.freshlyFetched i →
    s.plainRead s.pc → s.plainRead (s.pc + 1) →
    ∃ u : State, Host.Core.run Sys2Proof.core 3 s = .next u.fetch ∧
      u.pc = s.pc + 2 ∧ u.sp = s.sp ∧ u.mem = s.mem ∧ (∀ x : Reg8, u.reg x = s.reg x) ∧ u.f = s.f ∧
      u.bus = .read (s.pc + 1) (Memory.read s.mem (s.pc + 1)) :: .read s.pc (Memory.read s.mem s.pc) :: s.bus)

/-- RET and RETI, whole: four calls pop the address; RETI leaves IME true. 45_control.md, 4. Calls, returns and
restarts. From a freshly fetched RET or RETI whose stack bytes no delegate hides: after four calls the core has
fetched from cat16(byte at SP + 1, byte at SP), SP is two higher, memory, registers and F are unchanged; RETI leaves
IME true. -/
def Obligations.ReturnGoesToThePoppedAddress : Prop :=
  ∀ (s : State) (i : Instr), i = .ret ∨ i = .reti → s.freshlyFetched i → s.plainRead s.sp → s.plainRead (s.sp + 1) →
    ∃ u : State, Host.Core.run Sys2Proof.core 4 s = .next u.fetch ∧
      u.pc = cat16 (Memory.read s.mem (s.sp + 1)) (Memory.read s.mem s.sp) ∧ u.sp = s.sp + 2 ∧ u.mem = s.mem ∧
      (∀ x : Reg8, u.reg x = s.reg x) ∧ u.f = s.f ∧ (i = .reti → u.ime = true) ∧
      (i = .ret → u.ime = (s.ime || s.imeScheduled))
end

