-- ==== Sys2Proof/Laws/State.lean ====
section
/-! SUPPORT. What each update of the state leaves in each field: one lemma per field per update. -/

namespace Sys2Proof.Machine

variable (s : State)

/-! ### `setFlagZ` -/
@[simp] theorem setFlagZ_a (x : Bool) : (s.setFlagZ x).a = s.a := rfl
@[simp] theorem setFlagZ_f (x : Bool) : (s.setFlagZ x).f = writeBit s.f 7 x := rfl
@[simp] theorem setFlagZ_b (x : Bool) : (s.setFlagZ x).b = s.b := rfl
@[simp] theorem setFlagZ_c (x : Bool) : (s.setFlagZ x).c = s.c := rfl
@[simp] theorem setFlagZ_d (x : Bool) : (s.setFlagZ x).d = s.d := rfl
@[simp] theorem setFlagZ_e (x : Bool) : (s.setFlagZ x).e = s.e := rfl
@[simp] theorem setFlagZ_h (x : Bool) : (s.setFlagZ x).h = s.h := rfl
@[simp] theorem setFlagZ_l (x : Bool) : (s.setFlagZ x).l = s.l := rfl
@[simp] theorem setFlagZ_pc (x : Bool) : (s.setFlagZ x).pc = s.pc := rfl
@[simp] theorem setFlagZ_sp (x : Bool) : (s.setFlagZ x).sp = s.sp := rfl
@[simp] theorem setFlagZ_ime (x : Bool) : (s.setFlagZ x).ime = s.ime := rfl
@[simp] theorem setFlagZ_imeScheduled (x : Bool) : (s.setFlagZ x).imeScheduled = s.imeScheduled := rfl
@[simp] theorem setFlagZ_haltMode (x : Bool) : (s.setFlagZ x).haltMode = s.haltMode := rfl
@[simp] theorem setFlagZ_stopMode (x : Bool) : (s.setFlagZ x).stopMode = s.stopMode := rfl
@[simp] theorem setFlagZ_prefixPending (x : Bool) : (s.setFlagZ x).prefixPending = s.prefixPending := rfl
@[simp] theorem setFlagZ_record (x : Bool) : (s.setFlagZ x).record = s.record := rfl
@[simp] theorem setFlagZ_fault (x : Bool) : (s.setFlagZ x).fault = s.fault := rfl
@[simp] theorem setFlagZ_mem (x : Bool) : (s.setFlagZ x).mem = s.mem := rfl
@[simp] theorem setFlagZ_delegatedRead (x : Bool) : (s.setFlagZ x).delegatedRead = s.delegatedRead := rfl
@[simp] theorem setFlagZ_delegatedWrite (x : Bool) : (s.setFlagZ x).delegatedWrite = s.delegatedWrite := rfl
@[simp] theorem setFlagZ_bus (x : Bool) : (s.setFlagZ x).bus = s.bus := rfl
@[simp] theorem setFlagZ_cycles (x : Bool) : (s.setFlagZ x).cycles = s.cycles := rfl

/-! ### `setFlagN` -/
@[simp] theorem setFlagN_a (x : Bool) : (s.setFlagN x).a = s.a := rfl
@[simp] theorem setFlagN_f (x : Bool) : (s.setFlagN x).f = writeBit s.f 6 x := rfl
@[simp] theorem setFlagN_b (x : Bool) : (s.setFlagN x).b = s.b := rfl
@[simp] theorem setFlagN_c (x : Bool) : (s.setFlagN x).c = s.c := rfl
@[simp] theorem setFlagN_d (x : Bool) : (s.setFlagN x).d = s.d := rfl
@[simp] theorem setFlagN_e (x : Bool) : (s.setFlagN x).e = s.e := rfl
@[simp] theorem setFlagN_h (x : Bool) : (s.setFlagN x).h = s.h := rfl
@[simp] theorem setFlagN_l (x : Bool) : (s.setFlagN x).l = s.l := rfl
@[simp] theorem setFlagN_pc (x : Bool) : (s.setFlagN x).pc = s.pc := rfl
@[simp] theorem setFlagN_sp (x : Bool) : (s.setFlagN x).sp = s.sp := rfl
@[simp] theorem setFlagN_ime (x : Bool) : (s.setFlagN x).ime = s.ime := rfl
@[simp] theorem setFlagN_imeScheduled (x : Bool) : (s.setFlagN x).imeScheduled = s.imeScheduled := rfl
@[simp] theorem setFlagN_haltMode (x : Bool) : (s.setFlagN x).haltMode = s.haltMode := rfl
@[simp] theorem setFlagN_stopMode (x : Bool) : (s.setFlagN x).stopMode = s.stopMode := rfl
@[simp] theorem setFlagN_prefixPending (x : Bool) : (s.setFlagN x).prefixPending = s.prefixPending := rfl
@[simp] theorem setFlagN_record (x : Bool) : (s.setFlagN x).record = s.record := rfl
@[simp] theorem setFlagN_fault (x : Bool) : (s.setFlagN x).fault = s.fault := rfl
@[simp] theorem setFlagN_mem (x : Bool) : (s.setFlagN x).mem = s.mem := rfl
@[simp] theorem setFlagN_delegatedRead (x : Bool) : (s.setFlagN x).delegatedRead = s.delegatedRead := rfl
@[simp] theorem setFlagN_delegatedWrite (x : Bool) : (s.setFlagN x).delegatedWrite = s.delegatedWrite := rfl
@[simp] theorem setFlagN_bus (x : Bool) : (s.setFlagN x).bus = s.bus := rfl
@[simp] theorem setFlagN_cycles (x : Bool) : (s.setFlagN x).cycles = s.cycles := rfl

/-! ### `setFlagH` -/
@[simp] theorem setFlagH_a (x : Bool) : (s.setFlagH x).a = s.a := rfl
@[simp] theorem setFlagH_f (x : Bool) : (s.setFlagH x).f = writeBit s.f 5 x := rfl
@[simp] theorem setFlagH_b (x : Bool) : (s.setFlagH x).b = s.b := rfl
@[simp] theorem setFlagH_c (x : Bool) : (s.setFlagH x).c = s.c := rfl
@[simp] theorem setFlagH_d (x : Bool) : (s.setFlagH x).d = s.d := rfl
@[simp] theorem setFlagH_e (x : Bool) : (s.setFlagH x).e = s.e := rfl
@[simp] theorem setFlagH_h (x : Bool) : (s.setFlagH x).h = s.h := rfl
@[simp] theorem setFlagH_l (x : Bool) : (s.setFlagH x).l = s.l := rfl
@[simp] theorem setFlagH_pc (x : Bool) : (s.setFlagH x).pc = s.pc := rfl
@[simp] theorem setFlagH_sp (x : Bool) : (s.setFlagH x).sp = s.sp := rfl
@[simp] theorem setFlagH_ime (x : Bool) : (s.setFlagH x).ime = s.ime := rfl
@[simp] theorem setFlagH_imeScheduled (x : Bool) : (s.setFlagH x).imeScheduled = s.imeScheduled := rfl
@[simp] theorem setFlagH_haltMode (x : Bool) : (s.setFlagH x).haltMode = s.haltMode := rfl
@[simp] theorem setFlagH_stopMode (x : Bool) : (s.setFlagH x).stopMode = s.stopMode := rfl
@[simp] theorem setFlagH_prefixPending (x : Bool) : (s.setFlagH x).prefixPending = s.prefixPending := rfl
@[simp] theorem setFlagH_record (x : Bool) : (s.setFlagH x).record = s.record := rfl
@[simp] theorem setFlagH_fault (x : Bool) : (s.setFlagH x).fault = s.fault := rfl
@[simp] theorem setFlagH_mem (x : Bool) : (s.setFlagH x).mem = s.mem := rfl
@[simp] theorem setFlagH_delegatedRead (x : Bool) : (s.setFlagH x).delegatedRead = s.delegatedRead := rfl
@[simp] theorem setFlagH_delegatedWrite (x : Bool) : (s.setFlagH x).delegatedWrite = s.delegatedWrite := rfl
@[simp] theorem setFlagH_bus (x : Bool) : (s.setFlagH x).bus = s.bus := rfl
@[simp] theorem setFlagH_cycles (x : Bool) : (s.setFlagH x).cycles = s.cycles := rfl

/-! ### `setFlagC` -/
@[simp] theorem setFlagC_a (x : Bool) : (s.setFlagC x).a = s.a := rfl
@[simp] theorem setFlagC_f (x : Bool) : (s.setFlagC x).f = writeBit s.f 4 x := rfl
@[simp] theorem setFlagC_b (x : Bool) : (s.setFlagC x).b = s.b := rfl
@[simp] theorem setFlagC_c (x : Bool) : (s.setFlagC x).c = s.c := rfl
@[simp] theorem setFlagC_d (x : Bool) : (s.setFlagC x).d = s.d := rfl
@[simp] theorem setFlagC_e (x : Bool) : (s.setFlagC x).e = s.e := rfl
@[simp] theorem setFlagC_h (x : Bool) : (s.setFlagC x).h = s.h := rfl
@[simp] theorem setFlagC_l (x : Bool) : (s.setFlagC x).l = s.l := rfl
@[simp] theorem setFlagC_pc (x : Bool) : (s.setFlagC x).pc = s.pc := rfl
@[simp] theorem setFlagC_sp (x : Bool) : (s.setFlagC x).sp = s.sp := rfl
@[simp] theorem setFlagC_ime (x : Bool) : (s.setFlagC x).ime = s.ime := rfl
@[simp] theorem setFlagC_imeScheduled (x : Bool) : (s.setFlagC x).imeScheduled = s.imeScheduled := rfl
@[simp] theorem setFlagC_haltMode (x : Bool) : (s.setFlagC x).haltMode = s.haltMode := rfl
@[simp] theorem setFlagC_stopMode (x : Bool) : (s.setFlagC x).stopMode = s.stopMode := rfl
@[simp] theorem setFlagC_prefixPending (x : Bool) : (s.setFlagC x).prefixPending = s.prefixPending := rfl
@[simp] theorem setFlagC_record (x : Bool) : (s.setFlagC x).record = s.record := rfl
@[simp] theorem setFlagC_fault (x : Bool) : (s.setFlagC x).fault = s.fault := rfl
@[simp] theorem setFlagC_mem (x : Bool) : (s.setFlagC x).mem = s.mem := rfl
@[simp] theorem setFlagC_delegatedRead (x : Bool) : (s.setFlagC x).delegatedRead = s.delegatedRead := rfl
@[simp] theorem setFlagC_delegatedWrite (x : Bool) : (s.setFlagC x).delegatedWrite = s.delegatedWrite := rfl
@[simp] theorem setFlagC_bus (x : Bool) : (s.setFlagC x).bus = s.bus := rfl
@[simp] theorem setFlagC_cycles (x : Bool) : (s.setFlagC x).cycles = s.cycles := rfl

/-! ### `setZNHC` -/
@[simp] theorem setZNHC_a (z n h c : Bool) : (s.setZNHC z n h c).a = s.a := rfl
@[simp] theorem setZNHC_f (z n h c : Bool) : (s.setZNHC z n h c).f = znhc z n h c := rfl
@[simp] theorem setZNHC_b (z n h c : Bool) : (s.setZNHC z n h c).b = s.b := rfl
@[simp] theorem setZNHC_c (z n h c : Bool) : (s.setZNHC z n h c).c = s.c := rfl
@[simp] theorem setZNHC_d (z n h c : Bool) : (s.setZNHC z n h c).d = s.d := rfl
@[simp] theorem setZNHC_e (z n h c : Bool) : (s.setZNHC z n h c).e = s.e := rfl
@[simp] theorem setZNHC_h (z n h c : Bool) : (s.setZNHC z n h c).h = s.h := rfl
@[simp] theorem setZNHC_l (z n h c : Bool) : (s.setZNHC z n h c).l = s.l := rfl
@[simp] theorem setZNHC_pc (z n h c : Bool) : (s.setZNHC z n h c).pc = s.pc := rfl
@[simp] theorem setZNHC_sp (z n h c : Bool) : (s.setZNHC z n h c).sp = s.sp := rfl
@[simp] theorem setZNHC_ime (z n h c : Bool) : (s.setZNHC z n h c).ime = s.ime := rfl
@[simp] theorem setZNHC_imeScheduled (z n h c : Bool) : (s.setZNHC z n h c).imeScheduled = s.imeScheduled := rfl
@[simp] theorem setZNHC_haltMode (z n h c : Bool) : (s.setZNHC z n h c).haltMode = s.haltMode := rfl
@[simp] theorem setZNHC_stopMode (z n h c : Bool) : (s.setZNHC z n h c).stopMode = s.stopMode := rfl
@[simp] theorem setZNHC_prefixPending (z n h c : Bool) : (s.setZNHC z n h c).prefixPending = s.prefixPending := rfl
@[simp] theorem setZNHC_record (z n h c : Bool) : (s.setZNHC z n h c).record = s.record := rfl
@[simp] theorem setZNHC_fault (z n h c : Bool) : (s.setZNHC z n h c).fault = s.fault := rfl
@[simp] theorem setZNHC_mem (z n h c : Bool) : (s.setZNHC z n h c).mem = s.mem := rfl
@[simp] theorem setZNHC_delegatedRead (z n h c : Bool) : (s.setZNHC z n h c).delegatedRead = s.delegatedRead := rfl
@[simp] theorem setZNHC_delegatedWrite (z n h c : Bool) : (s.setZNHC z n h c).delegatedWrite = s.delegatedWrite := rfl
@[simp] theorem setZNHC_bus (z n h c : Bool) : (s.setZNHC z n h c).bus = s.bus := rfl
@[simp] theorem setZNHC_cycles (z n h c : Bool) : (s.setZNHC z n h c).cycles = s.cycles := rfl

/-! ### `setAF` -/
@[simp] theorem setAF_a (v : Word) : (s.setAF v).a = hi8 v := rfl
@[simp] theorem setAF_f (v : Word) : (s.setAF v).f = lo8 v &&& 0xF0#8 := rfl
@[simp] theorem setAF_b (v : Word) : (s.setAF v).b = s.b := rfl
@[simp] theorem setAF_c (v : Word) : (s.setAF v).c = s.c := rfl
@[simp] theorem setAF_d (v : Word) : (s.setAF v).d = s.d := rfl
@[simp] theorem setAF_e (v : Word) : (s.setAF v).e = s.e := rfl
@[simp] theorem setAF_h (v : Word) : (s.setAF v).h = s.h := rfl
@[simp] theorem setAF_l (v : Word) : (s.setAF v).l = s.l := rfl
@[simp] theorem setAF_pc (v : Word) : (s.setAF v).pc = s.pc := rfl
@[simp] theorem setAF_sp (v : Word) : (s.setAF v).sp = s.sp := rfl
@[simp] theorem setAF_ime (v : Word) : (s.setAF v).ime = s.ime := rfl
@[simp] theorem setAF_imeScheduled (v : Word) : (s.setAF v).imeScheduled = s.imeScheduled := rfl
@[simp] theorem setAF_haltMode (v : Word) : (s.setAF v).haltMode = s.haltMode := rfl
@[simp] theorem setAF_stopMode (v : Word) : (s.setAF v).stopMode = s.stopMode := rfl
@[simp] theorem setAF_prefixPending (v : Word) : (s.setAF v).prefixPending = s.prefixPending := rfl
@[simp] theorem setAF_record (v : Word) : (s.setAF v).record = s.record := rfl
@[simp] theorem setAF_fault (v : Word) : (s.setAF v).fault = s.fault := rfl
@[simp] theorem setAF_mem (v : Word) : (s.setAF v).mem = s.mem := rfl
@[simp] theorem setAF_delegatedRead (v : Word) : (s.setAF v).delegatedRead = s.delegatedRead := rfl
@[simp] theorem setAF_delegatedWrite (v : Word) : (s.setAF v).delegatedWrite = s.delegatedWrite := rfl
@[simp] theorem setAF_bus (v : Word) : (s.setAF v).bus = s.bus := rfl
@[simp] theorem setAF_cycles (v : Word) : (s.setAF v).cycles = s.cycles := rfl

/-! ### `setBC` -/
@[simp] theorem setBC_a (v : Word) : (s.setBC v).a = s.a := rfl
@[simp] theorem setBC_f (v : Word) : (s.setBC v).f = s.f := rfl
@[simp] theorem setBC_b (v : Word) : (s.setBC v).b = hi8 v := rfl
@[simp] theorem setBC_c (v : Word) : (s.setBC v).c = lo8 v := rfl
@[simp] theorem setBC_d (v : Word) : (s.setBC v).d = s.d := rfl
@[simp] theorem setBC_e (v : Word) : (s.setBC v).e = s.e := rfl
@[simp] theorem setBC_h (v : Word) : (s.setBC v).h = s.h := rfl
@[simp] theorem setBC_l (v : Word) : (s.setBC v).l = s.l := rfl
@[simp] theorem setBC_pc (v : Word) : (s.setBC v).pc = s.pc := rfl
@[simp] theorem setBC_sp (v : Word) : (s.setBC v).sp = s.sp := rfl
@[simp] theorem setBC_ime (v : Word) : (s.setBC v).ime = s.ime := rfl
@[simp] theorem setBC_imeScheduled (v : Word) : (s.setBC v).imeScheduled = s.imeScheduled := rfl
@[simp] theorem setBC_haltMode (v : Word) : (s.setBC v).haltMode = s.haltMode := rfl
@[simp] theorem setBC_stopMode (v : Word) : (s.setBC v).stopMode = s.stopMode := rfl
@[simp] theorem setBC_prefixPending (v : Word) : (s.setBC v).prefixPending = s.prefixPending := rfl
@[simp] theorem setBC_record (v : Word) : (s.setBC v).record = s.record := rfl
@[simp] theorem setBC_fault (v : Word) : (s.setBC v).fault = s.fault := rfl
@[simp] theorem setBC_mem (v : Word) : (s.setBC v).mem = s.mem := rfl
@[simp] theorem setBC_delegatedRead (v : Word) : (s.setBC v).delegatedRead = s.delegatedRead := rfl
@[simp] theorem setBC_delegatedWrite (v : Word) : (s.setBC v).delegatedWrite = s.delegatedWrite := rfl
@[simp] theorem setBC_bus (v : Word) : (s.setBC v).bus = s.bus := rfl
@[simp] theorem setBC_cycles (v : Word) : (s.setBC v).cycles = s.cycles := rfl

/-! ### `setDE` -/
@[simp] theorem setDE_a (v : Word) : (s.setDE v).a = s.a := rfl
@[simp] theorem setDE_f (v : Word) : (s.setDE v).f = s.f := rfl
@[simp] theorem setDE_b (v : Word) : (s.setDE v).b = s.b := rfl
@[simp] theorem setDE_c (v : Word) : (s.setDE v).c = s.c := rfl
@[simp] theorem setDE_d (v : Word) : (s.setDE v).d = hi8 v := rfl
@[simp] theorem setDE_e (v : Word) : (s.setDE v).e = lo8 v := rfl
@[simp] theorem setDE_h (v : Word) : (s.setDE v).h = s.h := rfl
@[simp] theorem setDE_l (v : Word) : (s.setDE v).l = s.l := rfl
@[simp] theorem setDE_pc (v : Word) : (s.setDE v).pc = s.pc := rfl
@[simp] theorem setDE_sp (v : Word) : (s.setDE v).sp = s.sp := rfl
@[simp] theorem setDE_ime (v : Word) : (s.setDE v).ime = s.ime := rfl
@[simp] theorem setDE_imeScheduled (v : Word) : (s.setDE v).imeScheduled = s.imeScheduled := rfl
@[simp] theorem setDE_haltMode (v : Word) : (s.setDE v).haltMode = s.haltMode := rfl
@[simp] theorem setDE_stopMode (v : Word) : (s.setDE v).stopMode = s.stopMode := rfl
@[simp] theorem setDE_prefixPending (v : Word) : (s.setDE v).prefixPending = s.prefixPending := rfl
@[simp] theorem setDE_record (v : Word) : (s.setDE v).record = s.record := rfl
@[simp] theorem setDE_fault (v : Word) : (s.setDE v).fault = s.fault := rfl
@[simp] theorem setDE_mem (v : Word) : (s.setDE v).mem = s.mem := rfl
@[simp] theorem setDE_delegatedRead (v : Word) : (s.setDE v).delegatedRead = s.delegatedRead := rfl
@[simp] theorem setDE_delegatedWrite (v : Word) : (s.setDE v).delegatedWrite = s.delegatedWrite := rfl
@[simp] theorem setDE_bus (v : Word) : (s.setDE v).bus = s.bus := rfl
@[simp] theorem setDE_cycles (v : Word) : (s.setDE v).cycles = s.cycles := rfl

/-! ### `setHL` -/
@[simp] theorem setHL_a (v : Word) : (s.setHL v).a = s.a := rfl
@[simp] theorem setHL_f (v : Word) : (s.setHL v).f = s.f := rfl
@[simp] theorem setHL_b (v : Word) : (s.setHL v).b = s.b := rfl
@[simp] theorem setHL_c (v : Word) : (s.setHL v).c = s.c := rfl
@[simp] theorem setHL_d (v : Word) : (s.setHL v).d = s.d := rfl
@[simp] theorem setHL_e (v : Word) : (s.setHL v).e = s.e := rfl
@[simp] theorem setHL_h (v : Word) : (s.setHL v).h = hi8 v := rfl
@[simp] theorem setHL_l (v : Word) : (s.setHL v).l = lo8 v := rfl
@[simp] theorem setHL_pc (v : Word) : (s.setHL v).pc = s.pc := rfl
@[simp] theorem setHL_sp (v : Word) : (s.setHL v).sp = s.sp := rfl
@[simp] theorem setHL_ime (v : Word) : (s.setHL v).ime = s.ime := rfl
@[simp] theorem setHL_imeScheduled (v : Word) : (s.setHL v).imeScheduled = s.imeScheduled := rfl
@[simp] theorem setHL_haltMode (v : Word) : (s.setHL v).haltMode = s.haltMode := rfl
@[simp] theorem setHL_stopMode (v : Word) : (s.setHL v).stopMode = s.stopMode := rfl
@[simp] theorem setHL_prefixPending (v : Word) : (s.setHL v).prefixPending = s.prefixPending := rfl
@[simp] theorem setHL_record (v : Word) : (s.setHL v).record = s.record := rfl
@[simp] theorem setHL_fault (v : Word) : (s.setHL v).fault = s.fault := rfl
@[simp] theorem setHL_mem (v : Word) : (s.setHL v).mem = s.mem := rfl
@[simp] theorem setHL_delegatedRead (v : Word) : (s.setHL v).delegatedRead = s.delegatedRead := rfl
@[simp] theorem setHL_delegatedWrite (v : Word) : (s.setHL v).delegatedWrite = s.delegatedWrite := rfl
@[simp] theorem setHL_bus (v : Word) : (s.setHL v).bus = s.bus := rfl
@[simp] theorem setHL_cycles (v : Word) : (s.setHL v).cycles = s.cycles := rfl

/-! ### `setRecord` -/
@[simp] theorem setRecord_a (r : Record) : (s.setRecord r).a = s.a := rfl
@[simp] theorem setRecord_f (r : Record) : (s.setRecord r).f = s.f := rfl
@[simp] theorem setRecord_b (r : Record) : (s.setRecord r).b = s.b := rfl
@[simp] theorem setRecord_c (r : Record) : (s.setRecord r).c = s.c := rfl
@[simp] theorem setRecord_d (r : Record) : (s.setRecord r).d = s.d := rfl
@[simp] theorem setRecord_e (r : Record) : (s.setRecord r).e = s.e := rfl
@[simp] theorem setRecord_h (r : Record) : (s.setRecord r).h = s.h := rfl
@[simp] theorem setRecord_l (r : Record) : (s.setRecord r).l = s.l := rfl
@[simp] theorem setRecord_pc (r : Record) : (s.setRecord r).pc = s.pc := rfl
@[simp] theorem setRecord_sp (r : Record) : (s.setRecord r).sp = s.sp := rfl
@[simp] theorem setRecord_ime (r : Record) : (s.setRecord r).ime = s.ime := rfl
@[simp] theorem setRecord_imeScheduled (r : Record) : (s.setRecord r).imeScheduled = s.imeScheduled := rfl
@[simp] theorem setRecord_haltMode (r : Record) : (s.setRecord r).haltMode = s.haltMode := rfl
@[simp] theorem setRecord_stopMode (r : Record) : (s.setRecord r).stopMode = s.stopMode := rfl
@[simp] theorem setRecord_prefixPending (r : Record) : (s.setRecord r).prefixPending = s.prefixPending := rfl
@[simp] theorem setRecord_record (r : Record) : (s.setRecord r).record = some r := rfl
@[simp] theorem setRecord_fault (r : Record) : (s.setRecord r).fault = s.fault := rfl
@[simp] theorem setRecord_mem (r : Record) : (s.setRecord r).mem = s.mem := rfl
@[simp] theorem setRecord_delegatedRead (r : Record) : (s.setRecord r).delegatedRead = s.delegatedRead := rfl
@[simp] theorem setRecord_delegatedWrite (r : Record) : (s.setRecord r).delegatedWrite = s.delegatedWrite := rfl
@[simp] theorem setRecord_bus (r : Record) : (s.setRecord r).bus = s.bus := rfl
@[simp] theorem setRecord_cycles (r : Record) : (s.setRecord r).cycles = s.cycles := rfl

/-! ### `memRead` -/
@[simp] theorem memRead_a (addr : Word) : ((s.memRead addr).2).a = s.a := rfl
@[simp] theorem memRead_f (addr : Word) : ((s.memRead addr).2).f = s.f := rfl
@[simp] theorem memRead_b (addr : Word) : ((s.memRead addr).2).b = s.b := rfl
@[simp] theorem memRead_c (addr : Word) : ((s.memRead addr).2).c = s.c := rfl
@[simp] theorem memRead_d (addr : Word) : ((s.memRead addr).2).d = s.d := rfl
@[simp] theorem memRead_e (addr : Word) : ((s.memRead addr).2).e = s.e := rfl
@[simp] theorem memRead_h (addr : Word) : ((s.memRead addr).2).h = s.h := rfl
@[simp] theorem memRead_l (addr : Word) : ((s.memRead addr).2).l = s.l := rfl
@[simp] theorem memRead_pc (addr : Word) : ((s.memRead addr).2).pc = s.pc := rfl
@[simp] theorem memRead_sp (addr : Word) : ((s.memRead addr).2).sp = s.sp := rfl
@[simp] theorem memRead_ime (addr : Word) : ((s.memRead addr).2).ime = s.ime := rfl
@[simp] theorem memRead_imeScheduled (addr : Word) : ((s.memRead addr).2).imeScheduled = s.imeScheduled := rfl
@[simp] theorem memRead_haltMode (addr : Word) : ((s.memRead addr).2).haltMode = s.haltMode := rfl
@[simp] theorem memRead_stopMode (addr : Word) : ((s.memRead addr).2).stopMode = s.stopMode := rfl
@[simp] theorem memRead_prefixPending (addr : Word) : ((s.memRead addr).2).prefixPending = s.prefixPending := rfl
@[simp] theorem memRead_record (addr : Word) : ((s.memRead addr).2).record = s.record := rfl
@[simp] theorem memRead_fault (addr : Word) : ((s.memRead addr).2).fault = s.fault := rfl
@[simp] theorem memRead_mem (addr : Word) : ((s.memRead addr).2).mem = s.mem := rfl
@[simp] theorem memRead_delegatedRead (addr : Word) : ((s.memRead addr).2).delegatedRead = s.delegatedRead := rfl
@[simp] theorem memRead_delegatedWrite (addr : Word) : ((s.memRead addr).2).delegatedWrite = s.delegatedWrite := rfl
@[simp] theorem memRead_bus (addr : Word) : ((s.memRead addr).2).bus = .read addr (s.readValue addr) :: s.bus := rfl
@[simp] theorem memRead_cycles (addr : Word) : ((s.memRead addr).2).cycles = s.cycles := rfl

/-! ### `memWrite` -/
@[simp] theorem memWrite_a (addr : Word) (v : Byte) : (s.memWrite addr v).a = s.a := rfl
@[simp] theorem memWrite_f (addr : Word) (v : Byte) : (s.memWrite addr v).f = s.f := rfl
@[simp] theorem memWrite_b (addr : Word) (v : Byte) : (s.memWrite addr v).b = s.b := rfl
@[simp] theorem memWrite_c (addr : Word) (v : Byte) : (s.memWrite addr v).c = s.c := rfl
@[simp] theorem memWrite_d (addr : Word) (v : Byte) : (s.memWrite addr v).d = s.d := rfl
@[simp] theorem memWrite_e (addr : Word) (v : Byte) : (s.memWrite addr v).e = s.e := rfl
@[simp] theorem memWrite_h (addr : Word) (v : Byte) : (s.memWrite addr v).h = s.h := rfl
@[simp] theorem memWrite_l (addr : Word) (v : Byte) : (s.memWrite addr v).l = s.l := rfl
@[simp] theorem memWrite_pc (addr : Word) (v : Byte) : (s.memWrite addr v).pc = s.pc := rfl
@[simp] theorem memWrite_sp (addr : Word) (v : Byte) : (s.memWrite addr v).sp = s.sp := rfl
@[simp] theorem memWrite_ime (addr : Word) (v : Byte) : (s.memWrite addr v).ime = s.ime := rfl
@[simp] theorem memWrite_imeScheduled (addr : Word) (v : Byte) : (s.memWrite addr v).imeScheduled = s.imeScheduled := rfl
@[simp] theorem memWrite_haltMode (addr : Word) (v : Byte) : (s.memWrite addr v).haltMode = s.haltMode := rfl
@[simp] theorem memWrite_stopMode (addr : Word) (v : Byte) : (s.memWrite addr v).stopMode = s.stopMode := rfl
@[simp] theorem memWrite_prefixPending (addr : Word) (v : Byte) : (s.memWrite addr v).prefixPending = s.prefixPending := rfl
@[simp] theorem memWrite_record (addr : Word) (v : Byte) : (s.memWrite addr v).record = s.record := rfl
@[simp] theorem memWrite_fault (addr : Word) (v : Byte) : (s.memWrite addr v).fault = s.fault := rfl
@[simp] theorem memWrite_mem (addr : Word) (v : Byte) : (s.memWrite addr v).mem = if s.delegatedWrite.contains addr then s.mem else Memory.write s.mem addr v := rfl
@[simp] theorem memWrite_delegatedRead (addr : Word) (v : Byte) : (s.memWrite addr v).delegatedRead = s.delegatedRead := rfl
@[simp] theorem memWrite_delegatedWrite (addr : Word) (v : Byte) : (s.memWrite addr v).delegatedWrite = s.delegatedWrite := rfl
@[simp] theorem memWrite_bus (addr : Word) (v : Byte) : (s.memWrite addr v).bus = .write addr v :: s.bus := rfl
@[simp] theorem memWrite_cycles (addr : Word) (v : Byte) : (s.memWrite addr v).cycles = s.cycles := rfl

/-! ### `imm8` -/
@[simp] theorem imm8_a : (s.imm8.2).a = s.a := rfl
@[simp] theorem imm8_f : (s.imm8.2).f = s.f := rfl
@[simp] theorem imm8_b : (s.imm8.2).b = s.b := rfl
@[simp] theorem imm8_c : (s.imm8.2).c = s.c := rfl
@[simp] theorem imm8_d : (s.imm8.2).d = s.d := rfl
@[simp] theorem imm8_e : (s.imm8.2).e = s.e := rfl
@[simp] theorem imm8_h : (s.imm8.2).h = s.h := rfl
@[simp] theorem imm8_l : (s.imm8.2).l = s.l := rfl
@[simp] theorem imm8_pc : (s.imm8.2).pc = s.pc + 1 := rfl
@[simp] theorem imm8_sp : (s.imm8.2).sp = s.sp := rfl
@[simp] theorem imm8_ime : (s.imm8.2).ime = s.ime := rfl
@[simp] theorem imm8_imeScheduled : (s.imm8.2).imeScheduled = s.imeScheduled := rfl
@[simp] theorem imm8_haltMode : (s.imm8.2).haltMode = s.haltMode := rfl
@[simp] theorem imm8_stopMode : (s.imm8.2).stopMode = s.stopMode := rfl
@[simp] theorem imm8_prefixPending : (s.imm8.2).prefixPending = s.prefixPending := rfl
@[simp] theorem imm8_record : (s.imm8.2).record = s.record := rfl
@[simp] theorem imm8_fault : (s.imm8.2).fault = s.fault := rfl
@[simp] theorem imm8_mem : (s.imm8.2).mem = s.mem := rfl
@[simp] theorem imm8_delegatedRead : (s.imm8.2).delegatedRead = s.delegatedRead := rfl
@[simp] theorem imm8_delegatedWrite : (s.imm8.2).delegatedWrite = s.delegatedWrite := rfl
@[simp] theorem imm8_bus : (s.imm8.2).bus = .read s.pc (s.readValue s.pc) :: s.bus := rfl
@[simp] theorem imm8_cycles : (s.imm8.2).cycles = s.cycles := rfl

/-! ### `push8` -/
@[simp] theorem push8_a (v : Byte) : (s.push8 v).a = s.a := rfl
@[simp] theorem push8_f (v : Byte) : (s.push8 v).f = s.f := rfl
@[simp] theorem push8_b (v : Byte) : (s.push8 v).b = s.b := rfl
@[simp] theorem push8_c (v : Byte) : (s.push8 v).c = s.c := rfl
@[simp] theorem push8_d (v : Byte) : (s.push8 v).d = s.d := rfl
@[simp] theorem push8_e (v : Byte) : (s.push8 v).e = s.e := rfl
@[simp] theorem push8_h (v : Byte) : (s.push8 v).h = s.h := rfl
@[simp] theorem push8_l (v : Byte) : (s.push8 v).l = s.l := rfl
@[simp] theorem push8_pc (v : Byte) : (s.push8 v).pc = s.pc := rfl
@[simp] theorem push8_sp (v : Byte) : (s.push8 v).sp = s.sp - 1 := rfl
@[simp] theorem push8_ime (v : Byte) : (s.push8 v).ime = s.ime := rfl
@[simp] theorem push8_imeScheduled (v : Byte) : (s.push8 v).imeScheduled = s.imeScheduled := rfl
@[simp] theorem push8_haltMode (v : Byte) : (s.push8 v).haltMode = s.haltMode := rfl
@[simp] theorem push8_stopMode (v : Byte) : (s.push8 v).stopMode = s.stopMode := rfl
@[simp] theorem push8_prefixPending (v : Byte) : (s.push8 v).prefixPending = s.prefixPending := rfl
@[simp] theorem push8_record (v : Byte) : (s.push8 v).record = s.record := rfl
@[simp] theorem push8_fault (v : Byte) : (s.push8 v).fault = s.fault := rfl
@[simp] theorem push8_mem (v : Byte) : (s.push8 v).mem = if s.delegatedWrite.contains (s.sp - 1) then s.mem else Memory.write s.mem (s.sp - 1) v := rfl
@[simp] theorem push8_delegatedRead (v : Byte) : (s.push8 v).delegatedRead = s.delegatedRead := rfl
@[simp] theorem push8_delegatedWrite (v : Byte) : (s.push8 v).delegatedWrite = s.delegatedWrite := rfl
@[simp] theorem push8_bus (v : Byte) : (s.push8 v).bus = .write (s.sp - 1) v :: s.bus := rfl
@[simp] theorem push8_cycles (v : Byte) : (s.push8 v).cycles = s.cycles := rfl

/-! ### `pop8` -/
@[simp] theorem pop8_a : (s.pop8.2).a = s.a := rfl
@[simp] theorem pop8_f : (s.pop8.2).f = s.f := rfl
@[simp] theorem pop8_b : (s.pop8.2).b = s.b := rfl
@[simp] theorem pop8_c : (s.pop8.2).c = s.c := rfl
@[simp] theorem pop8_d : (s.pop8.2).d = s.d := rfl
@[simp] theorem pop8_e : (s.pop8.2).e = s.e := rfl
@[simp] theorem pop8_h : (s.pop8.2).h = s.h := rfl
@[simp] theorem pop8_l : (s.pop8.2).l = s.l := rfl
@[simp] theorem pop8_pc : (s.pop8.2).pc = s.pc := rfl
@[simp] theorem pop8_sp : (s.pop8.2).sp = s.sp + 1 := rfl
@[simp] theorem pop8_ime : (s.pop8.2).ime = s.ime := rfl
@[simp] theorem pop8_imeScheduled : (s.pop8.2).imeScheduled = s.imeScheduled := rfl
@[simp] theorem pop8_haltMode : (s.pop8.2).haltMode = s.haltMode := rfl
@[simp] theorem pop8_stopMode : (s.pop8.2).stopMode = s.stopMode := rfl
@[simp] theorem pop8_prefixPending : (s.pop8.2).prefixPending = s.prefixPending := rfl
@[simp] theorem pop8_record : (s.pop8.2).record = s.record := rfl
@[simp] theorem pop8_fault : (s.pop8.2).fault = s.fault := rfl
@[simp] theorem pop8_mem : (s.pop8.2).mem = s.mem := rfl
@[simp] theorem pop8_delegatedRead : (s.pop8.2).delegatedRead = s.delegatedRead := rfl
@[simp] theorem pop8_delegatedWrite : (s.pop8.2).delegatedWrite = s.delegatedWrite := rfl
@[simp] theorem pop8_bus : (s.pop8.2).bus = .read s.sp (s.readValue s.sp) :: s.bus := rfl
@[simp] theorem pop8_cycles : (s.pop8.2).cycles = s.cycles := rfl

/-! ### `raiseDecodeFault` -/
@[simp] theorem raiseDecodeFault_a (op : Byte) (addr : Word) : (s.raiseDecodeFault op addr).a = s.a := rfl
@[simp] theorem raiseDecodeFault_f (op : Byte) (addr : Word) : (s.raiseDecodeFault op addr).f = s.f := rfl
@[simp] theorem raiseDecodeFault_b (op : Byte) (addr : Word) : (s.raiseDecodeFault op addr).b = s.b := rfl
@[simp] theorem raiseDecodeFault_c (op : Byte) (addr : Word) : (s.raiseDecodeFault op addr).c = s.c := rfl
@[simp] theorem raiseDecodeFault_d (op : Byte) (addr : Word) : (s.raiseDecodeFault op addr).d = s.d := rfl
@[simp] theorem raiseDecodeFault_e (op : Byte) (addr : Word) : (s.raiseDecodeFault op addr).e = s.e := rfl
@[simp] theorem raiseDecodeFault_h (op : Byte) (addr : Word) : (s.raiseDecodeFault op addr).h = s.h := rfl
@[simp] theorem raiseDecodeFault_l (op : Byte) (addr : Word) : (s.raiseDecodeFault op addr).l = s.l := rfl
@[simp] theorem raiseDecodeFault_pc (op : Byte) (addr : Word) : (s.raiseDecodeFault op addr).pc = s.pc := rfl
@[simp] theorem raiseDecodeFault_sp (op : Byte) (addr : Word) : (s.raiseDecodeFault op addr).sp = s.sp := rfl
@[simp] theorem raiseDecodeFault_ime (op : Byte) (addr : Word) : (s.raiseDecodeFault op addr).ime = s.ime := rfl
@[simp] theorem raiseDecodeFault_imeScheduled (op : Byte) (addr : Word) : (s.raiseDecodeFault op addr).imeScheduled = s.imeScheduled := rfl
@[simp] theorem raiseDecodeFault_haltMode (op : Byte) (addr : Word) : (s.raiseDecodeFault op addr).haltMode = s.haltMode := rfl
@[simp] theorem raiseDecodeFault_stopMode (op : Byte) (addr : Word) : (s.raiseDecodeFault op addr).stopMode = s.stopMode := rfl
@[simp] theorem raiseDecodeFault_prefixPending (op : Byte) (addr : Word) : (s.raiseDecodeFault op addr).prefixPending = s.prefixPending := rfl
@[simp] theorem raiseDecodeFault_record (op : Byte) (addr : Word) : (s.raiseDecodeFault op addr).record = none := rfl
@[simp] theorem raiseDecodeFault_fault (op : Byte) (addr : Word) : (s.raiseDecodeFault op addr).fault = some { opcode := op, addr := addr } := rfl
@[simp] theorem raiseDecodeFault_mem (op : Byte) (addr : Word) : (s.raiseDecodeFault op addr).mem = s.mem := rfl
@[simp] theorem raiseDecodeFault_delegatedRead (op : Byte) (addr : Word) : (s.raiseDecodeFault op addr).delegatedRead = s.delegatedRead := rfl
@[simp] theorem raiseDecodeFault_delegatedWrite (op : Byte) (addr : Word) : (s.raiseDecodeFault op addr).delegatedWrite = s.delegatedWrite := rfl
@[simp] theorem raiseDecodeFault_bus (op : Byte) (addr : Word) : (s.raiseDecodeFault op addr).bus = s.bus := rfl
@[simp] theorem raiseDecodeFault_cycles (op : Byte) (addr : Word) : (s.raiseDecodeFault op addr).cycles = s.cycles := rfl

/-! ### `transferIme` -/
@[simp] theorem transferIme_a : (s.transferIme).a = s.a := rfl
@[simp] theorem transferIme_f : (s.transferIme).f = s.f := rfl
@[simp] theorem transferIme_b : (s.transferIme).b = s.b := rfl
@[simp] theorem transferIme_c : (s.transferIme).c = s.c := rfl
@[simp] theorem transferIme_d : (s.transferIme).d = s.d := rfl
@[simp] theorem transferIme_e : (s.transferIme).e = s.e := rfl
@[simp] theorem transferIme_h : (s.transferIme).h = s.h := rfl
@[simp] theorem transferIme_l : (s.transferIme).l = s.l := rfl
@[simp] theorem transferIme_pc : (s.transferIme).pc = s.pc := rfl
@[simp] theorem transferIme_sp : (s.transferIme).sp = s.sp := rfl
@[simp] theorem transferIme_ime : (s.transferIme).ime = (s.ime || s.imeScheduled) := rfl
@[simp] theorem transferIme_imeScheduled : (s.transferIme).imeScheduled = false := rfl
@[simp] theorem transferIme_haltMode : (s.transferIme).haltMode = s.haltMode := rfl
@[simp] theorem transferIme_stopMode : (s.transferIme).stopMode = s.stopMode := rfl
@[simp] theorem transferIme_prefixPending : (s.transferIme).prefixPending = s.prefixPending := rfl
@[simp] theorem transferIme_record : (s.transferIme).record = s.record := rfl
@[simp] theorem transferIme_fault : (s.transferIme).fault = s.fault := rfl
@[simp] theorem transferIme_mem : (s.transferIme).mem = s.mem := rfl
@[simp] theorem transferIme_delegatedRead : (s.transferIme).delegatedRead = s.delegatedRead := rfl
@[simp] theorem transferIme_delegatedWrite : (s.transferIme).delegatedWrite = s.delegatedWrite := rfl
@[simp] theorem transferIme_bus : (s.transferIme).bus = s.bus := rfl
@[simp] theorem transferIme_cycles : (s.transferIme).cycles = s.cycles := rfl

/-! ### `countCall` -/
@[simp] theorem countCall_a : s.countCall.a = s.a := rfl
@[simp] theorem countCall_f : s.countCall.f = s.f := rfl
@[simp] theorem countCall_b : s.countCall.b = s.b := rfl
@[simp] theorem countCall_c : s.countCall.c = s.c := rfl
@[simp] theorem countCall_d : s.countCall.d = s.d := rfl
@[simp] theorem countCall_e : s.countCall.e = s.e := rfl
@[simp] theorem countCall_h : s.countCall.h = s.h := rfl
@[simp] theorem countCall_l : s.countCall.l = s.l := rfl
@[simp] theorem countCall_pc : s.countCall.pc = s.pc := rfl
@[simp] theorem countCall_sp : s.countCall.sp = s.sp := rfl
@[simp] theorem countCall_ime : s.countCall.ime = s.ime := rfl
@[simp] theorem countCall_imeScheduled : s.countCall.imeScheduled = s.imeScheduled := rfl
@[simp] theorem countCall_haltMode : s.countCall.haltMode = s.haltMode := rfl
@[simp] theorem countCall_stopMode : s.countCall.stopMode = s.stopMode := rfl
@[simp] theorem countCall_prefixPending : s.countCall.prefixPending = s.prefixPending := rfl
@[simp] theorem countCall_record : s.countCall.record = s.record := rfl
@[simp] theorem countCall_fault : s.countCall.fault = s.fault := rfl
@[simp] theorem countCall_mem : s.countCall.mem = s.mem := rfl
@[simp] theorem countCall_delegatedRead : s.countCall.delegatedRead = s.delegatedRead := rfl
@[simp] theorem countCall_delegatedWrite : s.countCall.delegatedWrite = s.delegatedWrite := rfl
@[simp] theorem countCall_bus : s.countCall.bus = s.bus := rfl
@[simp] theorem countCall_cycles : s.countCall.cycles = s.cycles + 1 := rfl

/-! ### `beginCycle` -/
@[simp] theorem beginCycle_a (r : Record) : (s.beginCycle r).a = s.a := rfl
@[simp] theorem beginCycle_f (r : Record) : (s.beginCycle r).f = s.f := rfl
@[simp] theorem beginCycle_b (r : Record) : (s.beginCycle r).b = s.b := rfl
@[simp] theorem beginCycle_c (r : Record) : (s.beginCycle r).c = s.c := rfl
@[simp] theorem beginCycle_d (r : Record) : (s.beginCycle r).d = s.d := rfl
@[simp] theorem beginCycle_e (r : Record) : (s.beginCycle r).e = s.e := rfl
@[simp] theorem beginCycle_h (r : Record) : (s.beginCycle r).h = s.h := rfl
@[simp] theorem beginCycle_l (r : Record) : (s.beginCycle r).l = s.l := rfl
@[simp] theorem beginCycle_pc (r : Record) : (s.beginCycle r).pc = s.pc := rfl
@[simp] theorem beginCycle_sp (r : Record) : (s.beginCycle r).sp = s.sp := rfl
@[simp] theorem beginCycle_ime (r : Record) : (s.beginCycle r).ime = (s.ime || s.imeScheduled) := rfl
@[simp] theorem beginCycle_imeScheduled (r : Record) : (s.beginCycle r).imeScheduled = false := rfl
@[simp] theorem beginCycle_haltMode (r : Record) : (s.beginCycle r).haltMode = s.haltMode := rfl
@[simp] theorem beginCycle_stopMode (r : Record) : (s.beginCycle r).stopMode = s.stopMode := rfl
@[simp] theorem beginCycle_prefixPending (r : Record) : (s.beginCycle r).prefixPending = s.prefixPending := rfl
@[simp] theorem beginCycle_record (r : Record) : (s.beginCycle r).record = some { r with i := r.i + 1 } := rfl
@[simp] theorem beginCycle_fault (r : Record) : (s.beginCycle r).fault = s.fault := rfl
@[simp] theorem beginCycle_mem (r : Record) : (s.beginCycle r).mem = s.mem := rfl
@[simp] theorem beginCycle_delegatedRead (r : Record) : (s.beginCycle r).delegatedRead = s.delegatedRead := rfl
@[simp] theorem beginCycle_delegatedWrite (r : Record) : (s.beginCycle r).delegatedWrite = s.delegatedWrite := rfl
@[simp] theorem beginCycle_bus (r : Record) : (s.beginCycle r).bus = s.bus := rfl
@[simp] theorem beginCycle_cycles (r : Record) : (s.beginCycle r).cycles = s.cycles + 1 := rfl

/-! ### `incFlags` -/
@[simp] theorem incFlags_a (o : Byte) : (s.incFlags o).a = s.a := rfl
@[simp] theorem incFlags_b (o : Byte) : (s.incFlags o).b = s.b := rfl
@[simp] theorem incFlags_c (o : Byte) : (s.incFlags o).c = s.c := rfl
@[simp] theorem incFlags_d (o : Byte) : (s.incFlags o).d = s.d := rfl
@[simp] theorem incFlags_e (o : Byte) : (s.incFlags o).e = s.e := rfl
@[simp] theorem incFlags_h (o : Byte) : (s.incFlags o).h = s.h := rfl
@[simp] theorem incFlags_l (o : Byte) : (s.incFlags o).l = s.l := rfl
@[simp] theorem incFlags_pc (o : Byte) : (s.incFlags o).pc = s.pc := rfl
@[simp] theorem incFlags_sp (o : Byte) : (s.incFlags o).sp = s.sp := rfl
@[simp] theorem incFlags_ime (o : Byte) : (s.incFlags o).ime = s.ime := rfl
@[simp] theorem incFlags_imeScheduled (o : Byte) : (s.incFlags o).imeScheduled = s.imeScheduled := rfl
@[simp] theorem incFlags_haltMode (o : Byte) : (s.incFlags o).haltMode = s.haltMode := rfl
@[simp] theorem incFlags_stopMode (o : Byte) : (s.incFlags o).stopMode = s.stopMode := rfl
@[simp] theorem incFlags_prefixPending (o : Byte) : (s.incFlags o).prefixPending = s.prefixPending := rfl
@[simp] theorem incFlags_record (o : Byte) : (s.incFlags o).record = s.record := rfl
@[simp] theorem incFlags_fault (o : Byte) : (s.incFlags o).fault = s.fault := rfl
@[simp] theorem incFlags_mem (o : Byte) : (s.incFlags o).mem = s.mem := rfl
@[simp] theorem incFlags_delegatedRead (o : Byte) : (s.incFlags o).delegatedRead = s.delegatedRead := rfl
@[simp] theorem incFlags_delegatedWrite (o : Byte) : (s.incFlags o).delegatedWrite = s.delegatedWrite := rfl
@[simp] theorem incFlags_bus (o : Byte) : (s.incFlags o).bus = s.bus := rfl
@[simp] theorem incFlags_cycles (o : Byte) : (s.incFlags o).cycles = s.cycles := rfl

/-! ### `decFlags` -/
@[simp] theorem decFlags_a (o : Byte) : (s.decFlags o).a = s.a := rfl
@[simp] theorem decFlags_b (o : Byte) : (s.decFlags o).b = s.b := rfl
@[simp] theorem decFlags_c (o : Byte) : (s.decFlags o).c = s.c := rfl
@[simp] theorem decFlags_d (o : Byte) : (s.decFlags o).d = s.d := rfl
@[simp] theorem decFlags_e (o : Byte) : (s.decFlags o).e = s.e := rfl
@[simp] theorem decFlags_h (o : Byte) : (s.decFlags o).h = s.h := rfl
@[simp] theorem decFlags_l (o : Byte) : (s.decFlags o).l = s.l := rfl
@[simp] theorem decFlags_pc (o : Byte) : (s.decFlags o).pc = s.pc := rfl
@[simp] theorem decFlags_sp (o : Byte) : (s.decFlags o).sp = s.sp := rfl
@[simp] theorem decFlags_ime (o : Byte) : (s.decFlags o).ime = s.ime := rfl
@[simp] theorem decFlags_imeScheduled (o : Byte) : (s.decFlags o).imeScheduled = s.imeScheduled := rfl
@[simp] theorem decFlags_haltMode (o : Byte) : (s.decFlags o).haltMode = s.haltMode := rfl
@[simp] theorem decFlags_stopMode (o : Byte) : (s.decFlags o).stopMode = s.stopMode := rfl
@[simp] theorem decFlags_prefixPending (o : Byte) : (s.decFlags o).prefixPending = s.prefixPending := rfl
@[simp] theorem decFlags_record (o : Byte) : (s.decFlags o).record = s.record := rfl
@[simp] theorem decFlags_fault (o : Byte) : (s.decFlags o).fault = s.fault := rfl
@[simp] theorem decFlags_mem (o : Byte) : (s.decFlags o).mem = s.mem := rfl
@[simp] theorem decFlags_delegatedRead (o : Byte) : (s.decFlags o).delegatedRead = s.delegatedRead := rfl
@[simp] theorem decFlags_delegatedWrite (o : Byte) : (s.decFlags o).delegatedWrite = s.delegatedWrite := rfl
@[simp] theorem decFlags_bus (o : Byte) : (s.decFlags o).bus = s.bus := rfl
@[simp] theorem decFlags_cycles (o : Byte) : (s.decFlags o).cycles = s.cycles := rfl

/-! ### `addHLFlags` -/
@[simp] theorem addHLFlags_a (x y : Word) : (s.addHLFlags x y).a = s.a := rfl
@[simp] theorem addHLFlags_b (x y : Word) : (s.addHLFlags x y).b = s.b := rfl
@[simp] theorem addHLFlags_c (x y : Word) : (s.addHLFlags x y).c = s.c := rfl
@[simp] theorem addHLFlags_d (x y : Word) : (s.addHLFlags x y).d = s.d := rfl
@[simp] theorem addHLFlags_e (x y : Word) : (s.addHLFlags x y).e = s.e := rfl
@[simp] theorem addHLFlags_h (x y : Word) : (s.addHLFlags x y).h = s.h := rfl
@[simp] theorem addHLFlags_l (x y : Word) : (s.addHLFlags x y).l = s.l := rfl
@[simp] theorem addHLFlags_pc (x y : Word) : (s.addHLFlags x y).pc = s.pc := rfl
@[simp] theorem addHLFlags_sp (x y : Word) : (s.addHLFlags x y).sp = s.sp := rfl
@[simp] theorem addHLFlags_ime (x y : Word) : (s.addHLFlags x y).ime = s.ime := rfl
@[simp] theorem addHLFlags_imeScheduled (x y : Word) : (s.addHLFlags x y).imeScheduled = s.imeScheduled := rfl
@[simp] theorem addHLFlags_haltMode (x y : Word) : (s.addHLFlags x y).haltMode = s.haltMode := rfl
@[simp] theorem addHLFlags_stopMode (x y : Word) : (s.addHLFlags x y).stopMode = s.stopMode := rfl
@[simp] theorem addHLFlags_prefixPending (x y : Word) : (s.addHLFlags x y).prefixPending = s.prefixPending := rfl
@[simp] theorem addHLFlags_record (x y : Word) : (s.addHLFlags x y).record = s.record := rfl
@[simp] theorem addHLFlags_fault (x y : Word) : (s.addHLFlags x y).fault = s.fault := rfl
@[simp] theorem addHLFlags_mem (x y : Word) : (s.addHLFlags x y).mem = s.mem := rfl
@[simp] theorem addHLFlags_delegatedRead (x y : Word) : (s.addHLFlags x y).delegatedRead = s.delegatedRead := rfl
@[simp] theorem addHLFlags_delegatedWrite (x y : Word) : (s.addHLFlags x y).delegatedWrite = s.delegatedWrite := rfl
@[simp] theorem addHLFlags_bus (x y : Word) : (s.addHLFlags x y).bus = s.bus := rfl
@[simp] theorem addHLFlags_cycles (x y : Word) : (s.addHLFlags x y).cycles = s.cycles := rfl

/-! ### `bitFlags` -/
@[simp] theorem bitFlags_a (x : Byte) (k : BitVec 3) : (s.bitFlags x k).a = s.a := rfl
@[simp] theorem bitFlags_b (x : Byte) (k : BitVec 3) : (s.bitFlags x k).b = s.b := rfl
@[simp] theorem bitFlags_c (x : Byte) (k : BitVec 3) : (s.bitFlags x k).c = s.c := rfl
@[simp] theorem bitFlags_d (x : Byte) (k : BitVec 3) : (s.bitFlags x k).d = s.d := rfl
@[simp] theorem bitFlags_e (x : Byte) (k : BitVec 3) : (s.bitFlags x k).e = s.e := rfl
@[simp] theorem bitFlags_h (x : Byte) (k : BitVec 3) : (s.bitFlags x k).h = s.h := rfl
@[simp] theorem bitFlags_l (x : Byte) (k : BitVec 3) : (s.bitFlags x k).l = s.l := rfl
@[simp] theorem bitFlags_pc (x : Byte) (k : BitVec 3) : (s.bitFlags x k).pc = s.pc := rfl
@[simp] theorem bitFlags_sp (x : Byte) (k : BitVec 3) : (s.bitFlags x k).sp = s.sp := rfl
@[simp] theorem bitFlags_ime (x : Byte) (k : BitVec 3) : (s.bitFlags x k).ime = s.ime := rfl
@[simp] theorem bitFlags_imeScheduled (x : Byte) (k : BitVec 3) : (s.bitFlags x k).imeScheduled = s.imeScheduled := rfl
@[simp] theorem bitFlags_haltMode (x : Byte) (k : BitVec 3) : (s.bitFlags x k).haltMode = s.haltMode := rfl
@[simp] theorem bitFlags_stopMode (x : Byte) (k : BitVec 3) : (s.bitFlags x k).stopMode = s.stopMode := rfl
@[simp] theorem bitFlags_prefixPending (x : Byte) (k : BitVec 3) : (s.bitFlags x k).prefixPending = s.prefixPending := rfl
@[simp] theorem bitFlags_record (x : Byte) (k : BitVec 3) : (s.bitFlags x k).record = s.record := rfl
@[simp] theorem bitFlags_fault (x : Byte) (k : BitVec 3) : (s.bitFlags x k).fault = s.fault := rfl
@[simp] theorem bitFlags_mem (x : Byte) (k : BitVec 3) : (s.bitFlags x k).mem = s.mem := rfl
@[simp] theorem bitFlags_delegatedRead (x : Byte) (k : BitVec 3) : (s.bitFlags x k).delegatedRead = s.delegatedRead := rfl
@[simp] theorem bitFlags_delegatedWrite (x : Byte) (k : BitVec 3) : (s.bitFlags x k).delegatedWrite = s.delegatedWrite := rfl
@[simp] theorem bitFlags_bus (x : Byte) (k : BitVec 3) : (s.bitFlags x k).bus = s.bus := rfl
@[simp] theorem bitFlags_cycles (x : Byte) (k : BitVec 3) : (s.bitFlags x k).cycles = s.cycles := rfl

/-! ### `rotFlags` -/
@[simp] theorem rotFlags_a (r : Byte × Bool) : (s.rotFlags r).a = s.a := rfl
@[simp] theorem rotFlags_f (r : Byte × Bool) : (s.rotFlags r).f = znhc (r.1 == 0#8) false false r.2 := rfl
@[simp] theorem rotFlags_b (r : Byte × Bool) : (s.rotFlags r).b = s.b := rfl
@[simp] theorem rotFlags_c (r : Byte × Bool) : (s.rotFlags r).c = s.c := rfl
@[simp] theorem rotFlags_d (r : Byte × Bool) : (s.rotFlags r).d = s.d := rfl
@[simp] theorem rotFlags_e (r : Byte × Bool) : (s.rotFlags r).e = s.e := rfl
@[simp] theorem rotFlags_h (r : Byte × Bool) : (s.rotFlags r).h = s.h := rfl
@[simp] theorem rotFlags_l (r : Byte × Bool) : (s.rotFlags r).l = s.l := rfl
@[simp] theorem rotFlags_pc (r : Byte × Bool) : (s.rotFlags r).pc = s.pc := rfl
@[simp] theorem rotFlags_sp (r : Byte × Bool) : (s.rotFlags r).sp = s.sp := rfl
@[simp] theorem rotFlags_ime (r : Byte × Bool) : (s.rotFlags r).ime = s.ime := rfl
@[simp] theorem rotFlags_imeScheduled (r : Byte × Bool) : (s.rotFlags r).imeScheduled = s.imeScheduled := rfl
@[simp] theorem rotFlags_haltMode (r : Byte × Bool) : (s.rotFlags r).haltMode = s.haltMode := rfl
@[simp] theorem rotFlags_stopMode (r : Byte × Bool) : (s.rotFlags r).stopMode = s.stopMode := rfl
@[simp] theorem rotFlags_prefixPending (r : Byte × Bool) : (s.rotFlags r).prefixPending = s.prefixPending := rfl
@[simp] theorem rotFlags_record (r : Byte × Bool) : (s.rotFlags r).record = s.record := rfl
@[simp] theorem rotFlags_fault (r : Byte × Bool) : (s.rotFlags r).fault = s.fault := rfl
@[simp] theorem rotFlags_mem (r : Byte × Bool) : (s.rotFlags r).mem = s.mem := rfl
@[simp] theorem rotFlags_delegatedRead (r : Byte × Bool) : (s.rotFlags r).delegatedRead = s.delegatedRead := rfl
@[simp] theorem rotFlags_delegatedWrite (r : Byte × Bool) : (s.rotFlags r).delegatedWrite = s.delegatedWrite := rfl
@[simp] theorem rotFlags_bus (r : Byte × Bool) : (s.rotFlags r).bus = s.bus := rfl
@[simp] theorem rotFlags_cycles (r : Byte × Bool) : (s.rotFlags r).cycles = s.cycles := rfl

/-! ### `alu` -/
@[simp] theorem alu_a (o : AluOp) (x : Byte) : (s.alu o x).a = if aluWritesA o then (aluOut o s.a x s.flagC).v else s.a := rfl
@[simp] theorem alu_f (o : AluOp) (x : Byte) : (s.alu o x).f = znhc (aluOut o s.a x s.flagC).z (aluOut o s.a x s.flagC).n (aluOut o s.a x s.flagC).h (aluOut o s.a x s.flagC).c := rfl
@[simp] theorem alu_b (o : AluOp) (x : Byte) : (s.alu o x).b = s.b := rfl
@[simp] theorem alu_c (o : AluOp) (x : Byte) : (s.alu o x).c = s.c := rfl
@[simp] theorem alu_d (o : AluOp) (x : Byte) : (s.alu o x).d = s.d := rfl
@[simp] theorem alu_e (o : AluOp) (x : Byte) : (s.alu o x).e = s.e := rfl
@[simp] theorem alu_h (o : AluOp) (x : Byte) : (s.alu o x).h = s.h := rfl
@[simp] theorem alu_l (o : AluOp) (x : Byte) : (s.alu o x).l = s.l := rfl
@[simp] theorem alu_pc (o : AluOp) (x : Byte) : (s.alu o x).pc = s.pc := rfl
@[simp] theorem alu_sp (o : AluOp) (x : Byte) : (s.alu o x).sp = s.sp := rfl
@[simp] theorem alu_ime (o : AluOp) (x : Byte) : (s.alu o x).ime = s.ime := rfl
@[simp] theorem alu_imeScheduled (o : AluOp) (x : Byte) : (s.alu o x).imeScheduled = s.imeScheduled := rfl
@[simp] theorem alu_haltMode (o : AluOp) (x : Byte) : (s.alu o x).haltMode = s.haltMode := rfl
@[simp] theorem alu_stopMode (o : AluOp) (x : Byte) : (s.alu o x).stopMode = s.stopMode := rfl
@[simp] theorem alu_prefixPending (o : AluOp) (x : Byte) : (s.alu o x).prefixPending = s.prefixPending := rfl
@[simp] theorem alu_record (o : AluOp) (x : Byte) : (s.alu o x).record = s.record := rfl
@[simp] theorem alu_fault (o : AluOp) (x : Byte) : (s.alu o x).fault = s.fault := rfl
@[simp] theorem alu_mem (o : AluOp) (x : Byte) : (s.alu o x).mem = s.mem := rfl
@[simp] theorem alu_delegatedRead (o : AluOp) (x : Byte) : (s.alu o x).delegatedRead = s.delegatedRead := rfl
@[simp] theorem alu_delegatedWrite (o : AluOp) (x : Byte) : (s.alu o x).delegatedWrite = s.delegatedWrite := rfl
@[simp] theorem alu_bus (o : AluOp) (x : Byte) : (s.alu o x).bus = s.bus := rfl
@[simp] theorem alu_cycles (o : AluOp) (x : Byte) : (s.alu o x).cycles = s.cycles := rfl

/-! ### `daa` -/
@[simp] theorem daa_a : (s.daa).a = (daaOut s.a s.flagN s.flagH s.flagC).1 := rfl
@[simp] theorem daa_b : (s.daa).b = s.b := rfl
@[simp] theorem daa_c : (s.daa).c = s.c := rfl
@[simp] theorem daa_d : (s.daa).d = s.d := rfl
@[simp] theorem daa_e : (s.daa).e = s.e := rfl
@[simp] theorem daa_h : (s.daa).h = s.h := rfl
@[simp] theorem daa_l : (s.daa).l = s.l := rfl
@[simp] theorem daa_pc : (s.daa).pc = s.pc := rfl
@[simp] theorem daa_sp : (s.daa).sp = s.sp := rfl
@[simp] theorem daa_ime : (s.daa).ime = s.ime := rfl
@[simp] theorem daa_imeScheduled : (s.daa).imeScheduled = s.imeScheduled := rfl
@[simp] theorem daa_haltMode : (s.daa).haltMode = s.haltMode := rfl
@[simp] theorem daa_stopMode : (s.daa).stopMode = s.stopMode := rfl
@[simp] theorem daa_prefixPending : (s.daa).prefixPending = s.prefixPending := rfl
@[simp] theorem daa_record : (s.daa).record = s.record := rfl
@[simp] theorem daa_fault : (s.daa).fault = s.fault := rfl
@[simp] theorem daa_mem : (s.daa).mem = s.mem := rfl
@[simp] theorem daa_delegatedRead : (s.daa).delegatedRead = s.delegatedRead := rfl
@[simp] theorem daa_delegatedWrite : (s.daa).delegatedWrite = s.delegatedWrite := rfl
@[simp] theorem daa_bus : (s.daa).bus = s.bus := rfl
@[simp] theorem daa_cycles : (s.daa).cycles = s.cycles := rfl

/-! ### `cpl` -/
@[simp] theorem cpl_a : (s.cpl).a = s.a ^^^ 0xFF#8 := rfl
@[simp] theorem cpl_b : (s.cpl).b = s.b := rfl
@[simp] theorem cpl_c : (s.cpl).c = s.c := rfl
@[simp] theorem cpl_d : (s.cpl).d = s.d := rfl
@[simp] theorem cpl_e : (s.cpl).e = s.e := rfl
@[simp] theorem cpl_h : (s.cpl).h = s.h := rfl
@[simp] theorem cpl_l : (s.cpl).l = s.l := rfl
@[simp] theorem cpl_pc : (s.cpl).pc = s.pc := rfl
@[simp] theorem cpl_sp : (s.cpl).sp = s.sp := rfl
@[simp] theorem cpl_ime : (s.cpl).ime = s.ime := rfl
@[simp] theorem cpl_imeScheduled : (s.cpl).imeScheduled = s.imeScheduled := rfl
@[simp] theorem cpl_haltMode : (s.cpl).haltMode = s.haltMode := rfl
@[simp] theorem cpl_stopMode : (s.cpl).stopMode = s.stopMode := rfl
@[simp] theorem cpl_prefixPending : (s.cpl).prefixPending = s.prefixPending := rfl
@[simp] theorem cpl_record : (s.cpl).record = s.record := rfl
@[simp] theorem cpl_fault : (s.cpl).fault = s.fault := rfl
@[simp] theorem cpl_mem : (s.cpl).mem = s.mem := rfl
@[simp] theorem cpl_delegatedRead : (s.cpl).delegatedRead = s.delegatedRead := rfl
@[simp] theorem cpl_delegatedWrite : (s.cpl).delegatedWrite = s.delegatedWrite := rfl
@[simp] theorem cpl_bus : (s.cpl).bus = s.bus := rfl
@[simp] theorem cpl_cycles : (s.cpl).cycles = s.cycles := rfl

/-! ### `scf` -/
@[simp] theorem scf_a : (s.scf).a = s.a := rfl
@[simp] theorem scf_b : (s.scf).b = s.b := rfl
@[simp] theorem scf_c : (s.scf).c = s.c := rfl
@[simp] theorem scf_d : (s.scf).d = s.d := rfl
@[simp] theorem scf_e : (s.scf).e = s.e := rfl
@[simp] theorem scf_h : (s.scf).h = s.h := rfl
@[simp] theorem scf_l : (s.scf).l = s.l := rfl
@[simp] theorem scf_pc : (s.scf).pc = s.pc := rfl
@[simp] theorem scf_sp : (s.scf).sp = s.sp := rfl
@[simp] theorem scf_ime : (s.scf).ime = s.ime := rfl
@[simp] theorem scf_imeScheduled : (s.scf).imeScheduled = s.imeScheduled := rfl
@[simp] theorem scf_haltMode : (s.scf).haltMode = s.haltMode := rfl
@[simp] theorem scf_stopMode : (s.scf).stopMode = s.stopMode := rfl
@[simp] theorem scf_prefixPending : (s.scf).prefixPending = s.prefixPending := rfl
@[simp] theorem scf_record : (s.scf).record = s.record := rfl
@[simp] theorem scf_fault : (s.scf).fault = s.fault := rfl
@[simp] theorem scf_mem : (s.scf).mem = s.mem := rfl
@[simp] theorem scf_delegatedRead : (s.scf).delegatedRead = s.delegatedRead := rfl
@[simp] theorem scf_delegatedWrite : (s.scf).delegatedWrite = s.delegatedWrite := rfl
@[simp] theorem scf_bus : (s.scf).bus = s.bus := rfl
@[simp] theorem scf_cycles : (s.scf).cycles = s.cycles := rfl

/-! ### `ccf` -/
@[simp] theorem ccf_a : (s.ccf).a = s.a := rfl
@[simp] theorem ccf_b : (s.ccf).b = s.b := rfl
@[simp] theorem ccf_c : (s.ccf).c = s.c := rfl
@[simp] theorem ccf_d : (s.ccf).d = s.d := rfl
@[simp] theorem ccf_e : (s.ccf).e = s.e := rfl
@[simp] theorem ccf_h : (s.ccf).h = s.h := rfl
@[simp] theorem ccf_l : (s.ccf).l = s.l := rfl
@[simp] theorem ccf_pc : (s.ccf).pc = s.pc := rfl
@[simp] theorem ccf_sp : (s.ccf).sp = s.sp := rfl
@[simp] theorem ccf_ime : (s.ccf).ime = s.ime := rfl
@[simp] theorem ccf_imeScheduled : (s.ccf).imeScheduled = s.imeScheduled := rfl
@[simp] theorem ccf_haltMode : (s.ccf).haltMode = s.haltMode := rfl
@[simp] theorem ccf_stopMode : (s.ccf).stopMode = s.stopMode := rfl
@[simp] theorem ccf_prefixPending : (s.ccf).prefixPending = s.prefixPending := rfl
@[simp] theorem ccf_record : (s.ccf).record = s.record := rfl
@[simp] theorem ccf_fault : (s.ccf).fault = s.fault := rfl
@[simp] theorem ccf_mem : (s.ccf).mem = s.mem := rfl
@[simp] theorem ccf_delegatedRead : (s.ccf).delegatedRead = s.delegatedRead := rfl
@[simp] theorem ccf_delegatedWrite : (s.ccf).delegatedWrite = s.delegatedWrite := rfl
@[simp] theorem ccf_bus : (s.ccf).bus = s.bus := rfl
@[simp] theorem ccf_cycles : (s.ccf).cycles = s.cycles := rfl

/-! ### `rotA` -/
@[simp] theorem rotA_a (o : RotOp) : (s.rotA o).a = (rotOut o s.a s.flagC).1 := rfl
@[simp] theorem rotA_f (o : RotOp) : (s.rotA o).f = znhc false false false (rotOut o s.a s.flagC).2 := rfl
@[simp] theorem rotA_b (o : RotOp) : (s.rotA o).b = s.b := rfl
@[simp] theorem rotA_c (o : RotOp) : (s.rotA o).c = s.c := rfl
@[simp] theorem rotA_d (o : RotOp) : (s.rotA o).d = s.d := rfl
@[simp] theorem rotA_e (o : RotOp) : (s.rotA o).e = s.e := rfl
@[simp] theorem rotA_h (o : RotOp) : (s.rotA o).h = s.h := rfl
@[simp] theorem rotA_l (o : RotOp) : (s.rotA o).l = s.l := rfl
@[simp] theorem rotA_pc (o : RotOp) : (s.rotA o).pc = s.pc := rfl
@[simp] theorem rotA_sp (o : RotOp) : (s.rotA o).sp = s.sp := rfl
@[simp] theorem rotA_ime (o : RotOp) : (s.rotA o).ime = s.ime := rfl
@[simp] theorem rotA_imeScheduled (o : RotOp) : (s.rotA o).imeScheduled = s.imeScheduled := rfl
@[simp] theorem rotA_haltMode (o : RotOp) : (s.rotA o).haltMode = s.haltMode := rfl
@[simp] theorem rotA_stopMode (o : RotOp) : (s.rotA o).stopMode = s.stopMode := rfl
@[simp] theorem rotA_prefixPending (o : RotOp) : (s.rotA o).prefixPending = s.prefixPending := rfl
@[simp] theorem rotA_record (o : RotOp) : (s.rotA o).record = s.record := rfl
@[simp] theorem rotA_fault (o : RotOp) : (s.rotA o).fault = s.fault := rfl
@[simp] theorem rotA_mem (o : RotOp) : (s.rotA o).mem = s.mem := rfl
@[simp] theorem rotA_delegatedRead (o : RotOp) : (s.rotA o).delegatedRead = s.delegatedRead := rfl
@[simp] theorem rotA_delegatedWrite (o : RotOp) : (s.rotA o).delegatedWrite = s.delegatedWrite := rfl
@[simp] theorem rotA_bus (o : RotOp) : (s.rotA o).bus = s.bus := rfl
@[simp] theorem rotA_cycles (o : RotOp) : (s.rotA o).cycles = s.cycles := rfl

/-! ### `resetRegisters` -/
@[simp] theorem resetRegisters_a : (s.resetRegisters).a = 0x01#8 := rfl
@[simp] theorem resetRegisters_f : (s.resetRegisters).f = 0xB0#8 := rfl
@[simp] theorem resetRegisters_b : (s.resetRegisters).b = 0x00#8 := rfl
@[simp] theorem resetRegisters_c : (s.resetRegisters).c = 0x13#8 := rfl
@[simp] theorem resetRegisters_d : (s.resetRegisters).d = 0x00#8 := rfl
@[simp] theorem resetRegisters_e : (s.resetRegisters).e = 0xD8#8 := rfl
@[simp] theorem resetRegisters_h : (s.resetRegisters).h = 0x01#8 := rfl
@[simp] theorem resetRegisters_l : (s.resetRegisters).l = 0x4D#8 := rfl
@[simp] theorem resetRegisters_pc : (s.resetRegisters).pc = 0x0100#16 := rfl
@[simp] theorem resetRegisters_sp : (s.resetRegisters).sp = 0xFFFE#16 := rfl
@[simp] theorem resetRegisters_ime : (s.resetRegisters).ime = false := rfl
@[simp] theorem resetRegisters_imeScheduled : (s.resetRegisters).imeScheduled = false := rfl
@[simp] theorem resetRegisters_haltMode : (s.resetRegisters).haltMode = false := rfl
@[simp] theorem resetRegisters_stopMode : (s.resetRegisters).stopMode = false := rfl
@[simp] theorem resetRegisters_prefixPending : (s.resetRegisters).prefixPending = false := rfl
@[simp] theorem resetRegisters_record : (s.resetRegisters).record = none := rfl
@[simp] theorem resetRegisters_fault : (s.resetRegisters).fault = none := rfl
@[simp] theorem resetRegisters_mem : (s.resetRegisters).mem = s.mem := rfl
@[simp] theorem resetRegisters_delegatedRead : (s.resetRegisters).delegatedRead = s.delegatedRead := rfl
@[simp] theorem resetRegisters_delegatedWrite : (s.resetRegisters).delegatedWrite = s.delegatedWrite := rfl
@[simp] theorem resetRegisters_bus : (s.resetRegisters).bus = s.bus := rfl
@[simp] theorem resetRegisters_cycles : (s.resetRegisters).cycles = 0 := rfl

/-! ### `setReg` -/
@[simp] theorem setReg_f (r : Reg8) (v : Byte) : (s.setReg r v).f = s.f := by
  cases r <;> rfl
@[simp] theorem setReg_pc (r : Reg8) (v : Byte) : (s.setReg r v).pc = s.pc := by
  cases r <;> rfl
@[simp] theorem setReg_sp (r : Reg8) (v : Byte) : (s.setReg r v).sp = s.sp := by
  cases r <;> rfl
@[simp] theorem setReg_ime (r : Reg8) (v : Byte) : (s.setReg r v).ime = s.ime := by
  cases r <;> rfl
@[simp] theorem setReg_imeScheduled (r : Reg8) (v : Byte) : (s.setReg r v).imeScheduled = s.imeScheduled := by
  cases r <;> rfl
@[simp] theorem setReg_haltMode (r : Reg8) (v : Byte) : (s.setReg r v).haltMode = s.haltMode := by
  cases r <;> rfl
@[simp] theorem setReg_stopMode (r : Reg8) (v : Byte) : (s.setReg r v).stopMode = s.stopMode := by
  cases r <;> rfl
@[simp] theorem setReg_prefixPending (r : Reg8) (v : Byte) : (s.setReg r v).prefixPending = s.prefixPending := by
  cases r <;> rfl
@[simp] theorem setReg_record (r : Reg8) (v : Byte) : (s.setReg r v).record = s.record := by
  cases r <;> rfl
@[simp] theorem setReg_fault (r : Reg8) (v : Byte) : (s.setReg r v).fault = s.fault := by
  cases r <;> rfl
@[simp] theorem setReg_mem (r : Reg8) (v : Byte) : (s.setReg r v).mem = s.mem := by
  cases r <;> rfl
@[simp] theorem setReg_delegatedRead (r : Reg8) (v : Byte) : (s.setReg r v).delegatedRead = s.delegatedRead := by
  cases r <;> rfl
@[simp] theorem setReg_delegatedWrite (r : Reg8) (v : Byte) : (s.setReg r v).delegatedWrite = s.delegatedWrite := by
  cases r <;> rfl
@[simp] theorem setReg_bus (r : Reg8) (v : Byte) : (s.setReg r v).bus = s.bus := by
  cases r <;> rfl
@[simp] theorem setReg_cycles (r : Reg8) (v : Byte) : (s.setReg r v).cycles = s.cycles := by
  cases r <;> rfl

/-! ### `setPair` -/
@[simp] theorem setPair_a (p : Pair) (v : Word) : (s.setPair p v).a = s.a := by
  cases p <;> rfl
@[simp] theorem setPair_f (p : Pair) (v : Word) : (s.setPair p v).f = s.f := by
  cases p <;> rfl
@[simp] theorem setPair_pc (p : Pair) (v : Word) : (s.setPair p v).pc = s.pc := by
  cases p <;> rfl
@[simp] theorem setPair_ime (p : Pair) (v : Word) : (s.setPair p v).ime = s.ime := by
  cases p <;> rfl
@[simp] theorem setPair_imeScheduled (p : Pair) (v : Word) : (s.setPair p v).imeScheduled = s.imeScheduled := by
  cases p <;> rfl
@[simp] theorem setPair_haltMode (p : Pair) (v : Word) : (s.setPair p v).haltMode = s.haltMode := by
  cases p <;> rfl
@[simp] theorem setPair_stopMode (p : Pair) (v : Word) : (s.setPair p v).stopMode = s.stopMode := by
  cases p <;> rfl
@[simp] theorem setPair_prefixPending (p : Pair) (v : Word) : (s.setPair p v).prefixPending = s.prefixPending := by
  cases p <;> rfl
@[simp] theorem setPair_record (p : Pair) (v : Word) : (s.setPair p v).record = s.record := by
  cases p <;> rfl
@[simp] theorem setPair_fault (p : Pair) (v : Word) : (s.setPair p v).fault = s.fault := by
  cases p <;> rfl
@[simp] theorem setPair_mem (p : Pair) (v : Word) : (s.setPair p v).mem = s.mem := by
  cases p <;> rfl
@[simp] theorem setPair_delegatedRead (p : Pair) (v : Word) : (s.setPair p v).delegatedRead = s.delegatedRead := by
  cases p <;> rfl
@[simp] theorem setPair_delegatedWrite (p : Pair) (v : Word) : (s.setPair p v).delegatedWrite = s.delegatedWrite := by
  cases p <;> rfl
@[simp] theorem setPair_bus (p : Pair) (v : Word) : (s.setPair p v).bus = s.bus := by
  cases p <;> rfl
@[simp] theorem setPair_cycles (p : Pair) (v : Word) : (s.setPair p v).cycles = s.cycles := by
  cases p <;> rfl

/-! ### `setStackPair` -/
@[simp] theorem setStackPair_pc (p : StackPair) (v : Word) : (s.setStackPair p v).pc = s.pc := by
  cases p <;> rfl
@[simp] theorem setStackPair_sp (p : StackPair) (v : Word) : (s.setStackPair p v).sp = s.sp := by
  cases p <;> rfl
@[simp] theorem setStackPair_ime (p : StackPair) (v : Word) : (s.setStackPair p v).ime = s.ime := by
  cases p <;> rfl
@[simp] theorem setStackPair_imeScheduled (p : StackPair) (v : Word) : (s.setStackPair p v).imeScheduled = s.imeScheduled := by
  cases p <;> rfl
@[simp] theorem setStackPair_haltMode (p : StackPair) (v : Word) : (s.setStackPair p v).haltMode = s.haltMode := by
  cases p <;> rfl
@[simp] theorem setStackPair_stopMode (p : StackPair) (v : Word) : (s.setStackPair p v).stopMode = s.stopMode := by
  cases p <;> rfl
@[simp] theorem setStackPair_prefixPending (p : StackPair) (v : Word) : (s.setStackPair p v).prefixPending = s.prefixPending := by
  cases p <;> rfl
@[simp] theorem setStackPair_record (p : StackPair) (v : Word) : (s.setStackPair p v).record = s.record := by
  cases p <;> rfl
@[simp] theorem setStackPair_fault (p : StackPair) (v : Word) : (s.setStackPair p v).fault = s.fault := by
  cases p <;> rfl
@[simp] theorem setStackPair_mem (p : StackPair) (v : Word) : (s.setStackPair p v).mem = s.mem := by
  cases p <;> rfl
@[simp] theorem setStackPair_delegatedRead (p : StackPair) (v : Word) : (s.setStackPair p v).delegatedRead = s.delegatedRead := by
  cases p <;> rfl
@[simp] theorem setStackPair_delegatedWrite (p : StackPair) (v : Word) : (s.setStackPair p v).delegatedWrite = s.delegatedWrite := by
  cases p <;> rfl
@[simp] theorem setStackPair_bus (p : StackPair) (v : Word) : (s.setStackPair p v).bus = s.bus := by
  cases p <;> rfl
@[simp] theorem setStackPair_cycles (p : StackPair) (v : Word) : (s.setStackPair p v).cycles = s.cycles := by
  cases p <;> rfl

/-! ### `decodeFetched` -/
@[simp] theorem decodeFetched_a (op : Byte) (addr : Word) : (s.decodeFetched op addr).a = s.a := by
  unfold State.decodeFetched; split <;> [rfl; (split <;> rfl)]
@[simp] theorem decodeFetched_f (op : Byte) (addr : Word) : (s.decodeFetched op addr).f = s.f := by
  unfold State.decodeFetched; split <;> [rfl; (split <;> rfl)]
@[simp] theorem decodeFetched_b (op : Byte) (addr : Word) : (s.decodeFetched op addr).b = s.b := by
  unfold State.decodeFetched; split <;> [rfl; (split <;> rfl)]
@[simp] theorem decodeFetched_c (op : Byte) (addr : Word) : (s.decodeFetched op addr).c = s.c := by
  unfold State.decodeFetched; split <;> [rfl; (split <;> rfl)]
@[simp] theorem decodeFetched_d (op : Byte) (addr : Word) : (s.decodeFetched op addr).d = s.d := by
  unfold State.decodeFetched; split <;> [rfl; (split <;> rfl)]
@[simp] theorem decodeFetched_e (op : Byte) (addr : Word) : (s.decodeFetched op addr).e = s.e := by
  unfold State.decodeFetched; split <;> [rfl; (split <;> rfl)]
@[simp] theorem decodeFetched_h (op : Byte) (addr : Word) : (s.decodeFetched op addr).h = s.h := by
  unfold State.decodeFetched; split <;> [rfl; (split <;> rfl)]
@[simp] theorem decodeFetched_l (op : Byte) (addr : Word) : (s.decodeFetched op addr).l = s.l := by
  unfold State.decodeFetched; split <;> [rfl; (split <;> rfl)]
@[simp] theorem decodeFetched_pc (op : Byte) (addr : Word) : (s.decodeFetched op addr).pc = s.pc := by
  unfold State.decodeFetched; split <;> [rfl; (split <;> rfl)]
@[simp] theorem decodeFetched_sp (op : Byte) (addr : Word) : (s.decodeFetched op addr).sp = s.sp := by
  unfold State.decodeFetched; split <;> [rfl; (split <;> rfl)]
@[simp] theorem decodeFetched_ime (op : Byte) (addr : Word) : (s.decodeFetched op addr).ime = s.ime := by
  unfold State.decodeFetched; split <;> [rfl; (split <;> rfl)]
@[simp] theorem decodeFetched_imeScheduled (op : Byte) (addr : Word) : (s.decodeFetched op addr).imeScheduled = s.imeScheduled := by
  unfold State.decodeFetched; split <;> [rfl; (split <;> rfl)]
@[simp] theorem decodeFetched_haltMode (op : Byte) (addr : Word) : (s.decodeFetched op addr).haltMode = s.haltMode := by
  unfold State.decodeFetched; split <;> [rfl; (split <;> rfl)]
@[simp] theorem decodeFetched_stopMode (op : Byte) (addr : Word) : (s.decodeFetched op addr).stopMode = s.stopMode := by
  unfold State.decodeFetched; split <;> [rfl; (split <;> rfl)]
@[simp] theorem decodeFetched_mem (op : Byte) (addr : Word) : (s.decodeFetched op addr).mem = s.mem := by
  unfold State.decodeFetched; split <;> [rfl; (split <;> rfl)]
@[simp] theorem decodeFetched_delegatedRead (op : Byte) (addr : Word) : (s.decodeFetched op addr).delegatedRead = s.delegatedRead := by
  unfold State.decodeFetched; split <;> [rfl; (split <;> rfl)]
@[simp] theorem decodeFetched_delegatedWrite (op : Byte) (addr : Word) : (s.decodeFetched op addr).delegatedWrite = s.delegatedWrite := by
  unfold State.decodeFetched; split <;> [rfl; (split <;> rfl)]
@[simp] theorem decodeFetched_bus (op : Byte) (addr : Word) : (s.decodeFetched op addr).bus = s.bus := by
  unfold State.decodeFetched; split <;> [rfl; (split <;> rfl)]
@[simp] theorem decodeFetched_cycles (op : Byte) (addr : Word) : (s.decodeFetched op addr).cycles = s.cycles := by
  unfold State.decodeFetched; split <;> [rfl; (split <;> rfl)]

/-! ### `placeBytes` -/
@[simp] theorem placeBytes_a (addr : Word) (bs : List Byte) : (s.placeBytes addr bs).a = s.a := by
  induction bs generalizing s addr with
  | nil => rfl
  | cons v rest ih => exact ih _ _
@[simp] theorem placeBytes_f (addr : Word) (bs : List Byte) : (s.placeBytes addr bs).f = s.f := by
  induction bs generalizing s addr with
  | nil => rfl
  | cons v rest ih => exact ih _ _
@[simp] theorem placeBytes_b (addr : Word) (bs : List Byte) : (s.placeBytes addr bs).b = s.b := by
  induction bs generalizing s addr with
  | nil => rfl
  | cons v rest ih => exact ih _ _
@[simp] theorem placeBytes_c (addr : Word) (bs : List Byte) : (s.placeBytes addr bs).c = s.c := by
  induction bs generalizing s addr with
  | nil => rfl
  | cons v rest ih => exact ih _ _
@[simp] theorem placeBytes_d (addr : Word) (bs : List Byte) : (s.placeBytes addr bs).d = s.d := by
  induction bs generalizing s addr with
  | nil => rfl
  | cons v rest ih => exact ih _ _
@[simp] theorem placeBytes_e (addr : Word) (bs : List Byte) : (s.placeBytes addr bs).e = s.e := by
  induction bs generalizing s addr with
  | nil => rfl
  | cons v rest ih => exact ih _ _
@[simp] theorem placeBytes_h (addr : Word) (bs : List Byte) : (s.placeBytes addr bs).h = s.h := by
  induction bs generalizing s addr with
  | nil => rfl
  | cons v rest ih => exact ih _ _
@[simp] theorem placeBytes_l (addr : Word) (bs : List Byte) : (s.placeBytes addr bs).l = s.l := by
  induction bs generalizing s addr with
  | nil => rfl
  | cons v rest ih => exact ih _ _
@[simp] theorem placeBytes_pc (addr : Word) (bs : List Byte) : (s.placeBytes addr bs).pc = s.pc := by
  induction bs generalizing s addr with
  | nil => rfl
  | cons v rest ih => exact ih _ _
@[simp] theorem placeBytes_sp (addr : Word) (bs : List Byte) : (s.placeBytes addr bs).sp = s.sp := by
  induction bs generalizing s addr with
  | nil => rfl
  | cons v rest ih => exact ih _ _
@[simp] theorem placeBytes_ime (addr : Word) (bs : List Byte) : (s.placeBytes addr bs).ime = s.ime := by
  induction bs generalizing s addr with
  | nil => rfl
  | cons v rest ih => exact ih _ _
@[simp] theorem placeBytes_imeScheduled (addr : Word) (bs : List Byte) : (s.placeBytes addr bs).imeScheduled = s.imeScheduled := by
  induction bs generalizing s addr with
  | nil => rfl
  | cons v rest ih => exact ih _ _
@[simp] theorem placeBytes_haltMode (addr : Word) (bs : List Byte) : (s.placeBytes addr bs).haltMode = s.haltMode := by
  induction bs generalizing s addr with
  | nil => rfl
  | cons v rest ih => exact ih _ _
@[simp] theorem placeBytes_stopMode (addr : Word) (bs : List Byte) : (s.placeBytes addr bs).stopMode = s.stopMode := by
  induction bs generalizing s addr with
  | nil => rfl
  | cons v rest ih => exact ih _ _
@[simp] theorem placeBytes_prefixPending (addr : Word) (bs : List Byte) : (s.placeBytes addr bs).prefixPending = s.prefixPending := by
  induction bs generalizing s addr with
  | nil => rfl
  | cons v rest ih => exact ih _ _
@[simp] theorem placeBytes_record (addr : Word) (bs : List Byte) : (s.placeBytes addr bs).record = s.record := by
  induction bs generalizing s addr with
  | nil => rfl
  | cons v rest ih => exact ih _ _
@[simp] theorem placeBytes_fault (addr : Word) (bs : List Byte) : (s.placeBytes addr bs).fault = s.fault := by
  induction bs generalizing s addr with
  | nil => rfl
  | cons v rest ih => exact ih _ _
@[simp] theorem placeBytes_delegatedRead (addr : Word) (bs : List Byte) : (s.placeBytes addr bs).delegatedRead = s.delegatedRead := by
  induction bs generalizing s addr with
  | nil => rfl
  | cons v rest ih => exact ih _ _
@[simp] theorem placeBytes_delegatedWrite (addr : Word) (bs : List Byte) : (s.placeBytes addr bs).delegatedWrite = s.delegatedWrite := by
  induction bs generalizing s addr with
  | nil => rfl
  | cons v rest ih => exact ih _ _
@[simp] theorem placeBytes_bus (addr : Word) (bs : List Byte) : (s.placeBytes addr bs).bus = s.bus := by
  induction bs generalizing s addr with
  | nil => rfl
  | cons v rest ih => exact ih _ _
@[simp] theorem placeBytes_cycles (addr : Word) (bs : List Byte) : (s.placeBytes addr bs).cycles = s.cycles := by
  induction bs generalizing s addr with
  | nil => rfl
  | cons v rest ih => exact ih _ _

/-! ### Values read -/

@[simp] theorem memRead_value (addr : Word) : (s.memRead addr).1 = s.readValue addr := rfl
@[simp] theorem imm8_value : s.imm8.1 = s.readValue s.pc := rfl
@[simp] theorem pop8_value : s.pop8.1 = s.readValue s.sp := rfl
@[simp] theorem interruptHook_eq : s.interruptHook = s := rfl

/-- Reading a register after writing one. -/
@[simp] theorem setReg_reg (r r' : Reg8) (v : Byte) : (s.setReg r v).reg r' = if r = r' then v else s.reg r' := by
  cases r <;> cases r' <;> rfl

/-! ### `fetch` -/

theorem fetch_eq : s.fetch = s.imm8.2.decodeFetched (s.readValue s.pc) s.pc := rfl

@[simp] theorem fetch_a : s.fetch.a = s.a := by simp [fetch_eq]
@[simp] theorem fetch_f : s.fetch.f = s.f := by simp [fetch_eq]
@[simp] theorem fetch_b : s.fetch.b = s.b := by simp [fetch_eq]
@[simp] theorem fetch_c : s.fetch.c = s.c := by simp [fetch_eq]
@[simp] theorem fetch_d : s.fetch.d = s.d := by simp [fetch_eq]
@[simp] theorem fetch_e : s.fetch.e = s.e := by simp [fetch_eq]
@[simp] theorem fetch_h : s.fetch.h = s.h := by simp [fetch_eq]
@[simp] theorem fetch_l : s.fetch.l = s.l := by simp [fetch_eq]
@[simp] theorem fetch_pc : s.fetch.pc = s.pc + 1 := by simp [fetch_eq]
@[simp] theorem fetch_sp : s.fetch.sp = s.sp := by simp [fetch_eq]
@[simp] theorem fetch_ime : s.fetch.ime = s.ime := by simp [fetch_eq]
@[simp] theorem fetch_imeScheduled : s.fetch.imeScheduled = s.imeScheduled := by simp [fetch_eq]
@[simp] theorem fetch_haltMode : s.fetch.haltMode = s.haltMode := by simp [fetch_eq]
@[simp] theorem fetch_stopMode : s.fetch.stopMode = s.stopMode := by simp [fetch_eq]
@[simp] theorem fetch_mem : s.fetch.mem = s.mem := by simp [fetch_eq]
@[simp] theorem fetch_delegatedRead : s.fetch.delegatedRead = s.delegatedRead := by simp [fetch_eq]
@[simp] theorem fetch_delegatedWrite : s.fetch.delegatedWrite = s.delegatedWrite := by simp [fetch_eq]
@[simp] theorem fetch_bus : s.fetch.bus = .read s.pc (s.readValue s.pc) :: s.bus := by simp [fetch_eq]
@[simp] theorem fetch_cycles : s.fetch.cycles = s.cycles := by simp [fetch_eq]

/-- A fetch never leaves the prefix pending: R88, R90. -/
@[simp] theorem fetch_prefixPending : s.fetch.prefixPending = false := by
  rw [fetch_eq]
  unfold State.decodeFetched
  split
  · rfl
  · next h =>
    have h' : s.prefixPending = false := by simpa using h
    split <;> simpa using h'

end Sys2Proof.Machine
end

