-- ==== Sys2Proof/Laws/Exec.lean ====
section
/-! SUPPORT. One lemma per shared operation that runs a cycle: `exec` by form, `runLines`, `step`. -/

namespace Sys2Proof.Machine

/-- Every meaning is the schedule of its instruction's form. -/
theorem exec_eq_form (i : Instr) (s : State) : exec i s = runForm i.form s := by
  cases i <;> rfl

/-- A schedule runs the line its record names. -/
theorem runLines_of_line {lines : List Line} {s : State} {r : Record} {line : Line}
    (hr : s.record = some r) (hl : lineAt lines r.i = some line) : runLines lines s = .next (line r s) := by
  simp [runLines, hr, hl]

/-- Everything a schedule can do when it answers a next state. -/
theorem runLines_next {lines : List Line} {s t : State} (h : runLines lines s = .next t) :
    ∃ r line, s.record = some r ∧ lineAt lines r.i = some line ∧ t = line r s := by
  unfold runLines at h
  split at h
  · cases h
  · next r hr =>
    split at h
    · cases h
    · next line hl => cases h; exact ⟨r, line, hr, hl, rfl⟩

/-- The form of an instruction that is no undefined byte has a schedule. -/
theorem runForm_defined {f : Form} (h : ∀ op, f ≠ .undefined op) (s : State) :
    runForm f s = runLines (formLines f) s := by
  cases f <;> first | rfl | exact absurd rfl (h _)

/-- Everything a step can do when it answers a next state. -/
theorem step_next {s t : State} (h : step s = .next t) :
    (s.fault.isSome ∧ t = s.countCall) ∨
    (s.fault = none ∧ ∃ r u, s.record = some r ∧ exec r.instr (s.beginCycle r) = .next u ∧ t = u.endCycle) := by
  unfold step at h
  split at h
  · next x hx => cases h; exact .inl ⟨by simp [hx], rfl⟩
  · next hf =>
    split at h
    · cases h
    · next r hr =>
      split at h
      · next u hu => cases h; exact .inr ⟨hf, r, u, hr, hu, rfl⟩
      · cases h
      · cases h

/-- What a fetch leaves: the prefixed record, the base record, or the decode fault (R88). -/
theorem decodeFetched_cases (s : State) (op : Byte) (addr : Word) :
    (s.prefixPending = true ∧ s.decodeFetched op addr =
      { s with prefixPending := false, record := some (newRecord .prefixed op (decodePrefixed op) s.bus s.cycles) }) ∨
    (s.prefixPending = false ∧ ∃ i, decodeBase op = .ok i ∧
      s.decodeFetched op addr = { s with record := some (newRecord .base op i s.bus s.cycles) }) ∨
    (s.prefixPending = false ∧ (∃ x, decodeBase op = .error x) ∧
      s.decodeFetched op addr = s.raiseDecodeFault op addr) := by
  unfold State.decodeFetched
  split
  · next h => exact .inl ⟨h, rfl⟩
  · next h =>
    have h' : s.prefixPending = false := by simpa using h
    split
    · next i hi => exact .inr (.inl ⟨h', i, hi, rfl⟩)
    · next x hx => exact .inr (.inr ⟨h', ⟨x, hx⟩, rfl⟩)

/-- The end of a call: nothing without a record; else one cycle less, and the fetch after the last. -/
theorem endCycle_of_record {s : State} {r : Record} (hr : s.record = some r) :
    s.endCycle =
      if r.remaining - 1 = 0 then (s.setRecord { r with remaining := r.remaining - 1 }).fetch
      else s.setRecord { r with remaining := r.remaining - 1 } := by
  simp [State.endCycle, hr]

/-- A cycle that a schedule has is its line at one less, counted from 0. -/
theorem lineAt_some {lines : List Line} {i : BitVec 3} {line : Line} (h : lineAt lines i = some line) :
    ∃ k, lines[k]? = some line ∧ i.toNat = k + 1 := by
  unfold lineAt at h
  split at h
  · cases h
  · next h0 =>
    have hne : i.toNat ≠ 0 := fun hi => h0 (BitVec.eq_of_toNat_eq (by simpa using hi))
    exact ⟨_, h, by omega⟩

/-- Everything an instruction can do when it answers a next state: an undefined byte takes the decode fault; any other
runs the line of its form's schedule that the record names. -/
theorem exec_next_cases {i : Instr} {s t : State} (h : exec i s = .next t) :
    (∃ op, i.form = .undefined op ∧ t = s.raiseDecodeFault op (s.pc - 1)) ∨
    (∃ r line k, s.record = some r ∧ (formLines i.form)[k]? = some line ∧ r.i.toNat = k + 1 ∧ t = line r s) := by
  rw [exec_eq_form] at h
  by_cases hu : ∃ op, i.form = .undefined op
  · obtain ⟨op, hop⟩ := hu
    rw [hop] at h
    cases h
    exact .inl ⟨op, hop, rfl⟩
  · rw [runForm_defined fun op hop => hu ⟨op, hop⟩] at h
    obtain ⟨r, line, hr, hl, ht⟩ := runLines_next h
    obtain ⟨k, hk, hi⟩ := lineAt_some hl
    exact .inr ⟨r, line, k, hr, hk, hi, ht⟩

/-- The form of a well-formed instruction is no undefined byte. -/
theorem form_of_wellFormed {i : Instr} (hw : i.wellFormed = true) (op : Byte) : i.form ≠ .undefined op := by
  intro h
  revert hw
  revert h
  cases i <;> intro h <;> first | (cases h; decide) | cases h

/-- `Imm8` in full. -/
theorem imm8_eq (s : State) :
    s.imm8 = (s.readValue s.pc, { s with pc := s.pc + 1, bus := .read s.pc (s.readValue s.pc) :: s.bus }) := rfl

/-- An address without a read delegate reads the backing store. -/
theorem readValue_plain {s : State} {addr : Word} (h : s.plainRead addr) : s.readValue addr = Memory.read s.mem addr := by
  unfold State.plainRead at h
  simp [State.readValue, h]

end Sys2Proof.Machine
end

