-- ==== Sys2Proof/Laws/Memory.lean ====
section
/-! SUPPORT. The backing store: read after write, and the canonical form. -/

namespace Sys2Proof.Machine

/-- Lookup of the key just put. -/
theorem lookup_put_same (m : Memory) (hm : m.Pairwise (fun x y => x.1 < y.1)) (k : Nat) (v : Byte) :
    ((Memory.put m k v).lookup k).getD Memory.unlisted = v := by
  induction m with
  | nil => unfold Memory.put; split <;> simp_all
  | cons cell rest ih =>
    obtain ⟨k', v'⟩ := cell
    obtain ⟨hlt, hrest⟩ := List.pairwise_cons.mp hm
    have absent : ∀ l : Memory, (∀ y ∈ l, k < y.1) → l.lookup k = none := by
      intro l hl
      rw [List.lookup_eq_none_iff]
      intro p hp
      have := hl p hp
      simp only [ne_eq, bne_iff_ne]
      omega
    unfold Memory.put
    split
    · next hk =>
      split
      · next hv =>
        rw [absent]
        · simp [hv]
        · intro y hy
          rcases List.mem_cons.mp hy with rfl | hy
          · exact hk
          · exact lt_trans hk (hlt y hy)
      · simp
    · split
      · next hk =>
        subst hk
        split
        · next hv => rw [absent rest hlt]; simp [hv]
        · simp
      · next h1 h2 =>
        have : (k == k') = false := by simpa using h2
        simp only [List.lookup_cons, this]
        exact ih hrest

/-- Lookup of every other key. -/
theorem lookup_put_other (m : Memory) (k k' : Nat) (v : Byte) (h : k' ≠ k) :
    ((Memory.put m k v).lookup k').getD Memory.unlisted = (m.lookup k').getD Memory.unlisted := by
  have hb : (k' == k) = false := by simpa using h
  induction m with
  | nil => unfold Memory.put; split <;> simp [List.lookup_cons, hb]
  | cons cell rest ih =>
    obtain ⟨c, w⟩ := cell
    unfold Memory.put
    split
    · split
      · rfl
      · simp only [List.lookup_cons, hb]
    · split
      · next hk =>
        subst hk
        split <;> simp [List.lookup_cons, hb]
      · simp only [List.lookup_cons]
        split
        · rfl
        · exact ih

theorem read_eq (m : Memory) (addr : Word) : Memory.read m addr = (m.lookup addr.toNat).getD Memory.unlisted := by
  unfold Memory.read; cases List.lookup addr.toNat m <;> rfl

/-- Read after write at the same address. -/
theorem read_write_same (m : Memory) (hm : Memory.wf m) (addr : Word) (v : Byte) :
    Memory.read (Memory.write m addr v) addr = v := by
  rw [read_eq]; exact lookup_put_same m hm.1 _ _

/-- A write leaves every other address alone. -/
theorem read_write_other (m : Memory) (addr addr' : Word) (v : Byte) (h : addr' ≠ addr) :
    Memory.read (Memory.write m addr v) addr' = Memory.read m addr' := by
  rw [read_eq, read_eq]
  exact lookup_put_other m _ _ _ (fun hk => h (BitVec.eq_of_toNat_eq hk))

/-- The cells of a put are the new one and old ones. -/
theorem mem_put (m : Memory) (k : Nat) (v : Byte) (x : Host.Cell) (hx : x ∈ Memory.put m k v) :
    (x = (k, v) ∧ v ≠ Memory.unlisted) ∨ x ∈ m := by
  induction m with
  | nil => unfold Memory.put at hx; split at hx <;> simp_all
  | cons cell rest ih =>
    obtain ⟨c, w⟩ := cell
    unfold Memory.put at hx
    split at hx
    · split at hx
      · exact .inr hx
      · rcases List.mem_cons.mp hx with h | h
        · exact .inl ⟨h, by assumption⟩
        · exact .inr h
    · split at hx
      · split at hx
        · exact .inr (List.mem_cons_of_mem _ hx)
        · rcases List.mem_cons.mp hx with h | h
          · exact .inl ⟨h, by assumption⟩
          · exact .inr (List.mem_cons_of_mem _ h)
      · rcases List.mem_cons.mp hx with h | h
        · exact .inr (by simp [h])
        · rcases ih h with h | h
          · exact .inl h
          · exact .inr (List.mem_cons_of_mem _ h)

theorem put_pairwise (m : Memory) (hm : m.Pairwise (fun x y => x.1 < y.1)) (k : Nat) (v : Byte) :
    (Memory.put m k v).Pairwise (fun x y => x.1 < y.1) := by
  induction m with
  | nil => unfold Memory.put; split <;> simp
  | cons cell rest ih =>
    obtain ⟨c, w⟩ := cell
    obtain ⟨hlt, hrest⟩ := List.pairwise_cons.mp hm
    unfold Memory.put
    split
    · next hk =>
      split
      · exact hm
      · refine List.pairwise_cons.mpr ⟨?_, hm⟩
        intro y hy
        rcases List.mem_cons.mp hy with rfl | hy
        · exact hk
        · exact lt_trans hk (hlt y hy)
    · split
      · next hk =>
        subst hk
        split
        · exact hrest
        · exact List.pairwise_cons.mpr ⟨hlt, hrest⟩
      · next h1 h2 =>
        refine List.pairwise_cons.mpr ⟨?_, ih hrest⟩
        intro y hy
        rcases mem_put rest k v y hy with ⟨rfl, -⟩ | h
        · simp only; omega
        · exact hlt y h

/-- A store keeps the canonical form. -/
theorem write_wf (m : Memory) (hm : Memory.wf m) (addr : Word) (v : Byte) : Memory.wf (Memory.write m addr v) := by
  refine ⟨put_pairwise m hm.1 _ _, ?_⟩
  intro cell hc
  rcases mem_put m _ _ cell hc with ⟨rfl, hv⟩ | h
  · exact ⟨addr.isLt, hv⟩
  · exact hm.2 cell h

/-- A bus write keeps the canonical form. -/
theorem memWrite_wf (s : State) (hm : Memory.wf s.mem) (addr : Word) (v : Byte) :
    Memory.wf (s.memWrite addr v).mem := by
  rw [memWrite_mem]; split
  · exact hm
  · exact write_wf _ hm _ _

/-- A push keeps the canonical form. -/
theorem push8_wf (s : State) (hm : Memory.wf s.mem) (v : Byte) : Memory.wf (s.push8 v).mem :=
  memWrite_wf { s with sp := s.sp - 1 } hm _ _

/-- Placing bytes keeps the canonical form. -/
theorem placeBytes_wf (s : State) (hm : Memory.wf s.mem) (addr : Word) (bs : List Byte) :
    Memory.wf (s.placeBytes addr bs).mem := by
  induction bs generalizing s addr with
  | nil => exact hm
  | cons v rest ih => exact ih _ (write_wf _ hm _ _) _

end Sys2Proof.Machine
end

