-- ==== Sys2Proof/Laws/PerInstr.lean ====
section
/-! SUPPORT. Facts about every instruction as syntax, one lemma per constructor. -/

namespace Sys2Proof.Laws.RecordLength

/-- R84, R92, R93: an instruction takes 1 to 6 machine cycles and 1 to 3 bytes, and a not-taken length is positive and shorter than the taken one. -/
def Statement (i : Instr) : Prop :=
  i.wellFormed = true →
    1 ≤ i.form.cycles.toNat ∧ i.form.cycles.toNat ≤ 6 ∧ 1 ≤ i.form.bytes ∧ i.form.bytes ≤ 3 ∧
    (∀ short ∈ i.form.cyclesNotTaken, 0 < short.toNat ∧ short.toNat < i.form.cycles.toNat)

theorem nop : Statement .nop := by unfold Statement; decide
theorem ld_BC_nn : Statement .ld_BC_nn := by unfold Statement; decide
theorem ld_mBC_A : Statement .ld_mBC_A := by unfold Statement; decide
theorem inc_BC : Statement .inc_BC := by unfold Statement; decide
theorem inc_B : Statement .inc_B := by unfold Statement; decide
theorem dec_B : Statement .dec_B := by unfold Statement; decide
theorem ld_B_n : Statement .ld_B_n := by unfold Statement; decide
theorem rlca : Statement .rlca := by unfold Statement; decide
theorem ld_mnn_SP : Statement .ld_mnn_SP := by unfold Statement; decide
theorem add_HL_BC : Statement .add_HL_BC := by unfold Statement; decide
theorem ld_A_mBC : Statement .ld_A_mBC := by unfold Statement; decide
theorem dec_BC : Statement .dec_BC := by unfold Statement; decide
theorem inc_C : Statement .inc_C := by unfold Statement; decide
theorem dec_C : Statement .dec_C := by unfold Statement; decide
theorem ld_C_n : Statement .ld_C_n := by unfold Statement; decide
theorem rrca : Statement .rrca := by unfold Statement; decide
theorem stop : Statement .stop := by unfold Statement; decide
theorem ld_DE_nn : Statement .ld_DE_nn := by unfold Statement; decide
theorem ld_mDE_A : Statement .ld_mDE_A := by unfold Statement; decide
theorem inc_DE : Statement .inc_DE := by unfold Statement; decide
theorem inc_D : Statement .inc_D := by unfold Statement; decide
theorem dec_D : Statement .dec_D := by unfold Statement; decide
theorem ld_D_n : Statement .ld_D_n := by unfold Statement; decide
theorem rla : Statement .rla := by unfold Statement; decide
theorem jr_e : Statement .jr_e := by unfold Statement; decide
theorem add_HL_DE : Statement .add_HL_DE := by unfold Statement; decide
theorem ld_A_mDE : Statement .ld_A_mDE := by unfold Statement; decide
theorem dec_DE : Statement .dec_DE := by unfold Statement; decide
theorem inc_E : Statement .inc_E := by unfold Statement; decide
theorem dec_E : Statement .dec_E := by unfold Statement; decide
theorem ld_E_n : Statement .ld_E_n := by unfold Statement; decide
theorem rra : Statement .rra := by unfold Statement; decide
theorem jr_NZ_e : Statement .jr_NZ_e := by unfold Statement; decide
theorem ld_HL_nn : Statement .ld_HL_nn := by unfold Statement; decide
theorem ld_mHLi_A : Statement .ld_mHLi_A := by unfold Statement; decide
theorem inc_HL : Statement .inc_HL := by unfold Statement; decide
theorem inc_H : Statement .inc_H := by unfold Statement; decide
theorem dec_H : Statement .dec_H := by unfold Statement; decide
theorem ld_H_n : Statement .ld_H_n := by unfold Statement; decide
theorem daa : Statement .daa := by unfold Statement; decide
theorem jr_Z_e : Statement .jr_Z_e := by unfold Statement; decide
theorem add_HL_HL : Statement .add_HL_HL := by unfold Statement; decide
theorem ld_A_mHLi : Statement .ld_A_mHLi := by unfold Statement; decide
theorem dec_HL : Statement .dec_HL := by unfold Statement; decide
theorem inc_L : Statement .inc_L := by unfold Statement; decide
theorem dec_L : Statement .dec_L := by unfold Statement; decide
theorem ld_L_n : Statement .ld_L_n := by unfold Statement; decide
theorem cpl : Statement .cpl := by unfold Statement; decide
theorem jr_NC_e : Statement .jr_NC_e := by unfold Statement; decide
theorem ld_SP_nn : Statement .ld_SP_nn := by unfold Statement; decide
theorem ld_mHLd_A : Statement .ld_mHLd_A := by unfold Statement; decide
theorem inc_SP : Statement .inc_SP := by unfold Statement; decide
theorem inc_mHL : Statement .inc_mHL := by unfold Statement; decide
theorem dec_mHL : Statement .dec_mHL := by unfold Statement; decide
theorem ld_mHL_n : Statement .ld_mHL_n := by unfold Statement; decide
theorem scf : Statement .scf := by unfold Statement; decide
theorem jr_C_e : Statement .jr_C_e := by unfold Statement; decide
theorem add_HL_SP : Statement .add_HL_SP := by unfold Statement; decide
theorem ld_A_mHLd : Statement .ld_A_mHLd := by unfold Statement; decide
theorem dec_SP : Statement .dec_SP := by unfold Statement; decide
theorem inc_A : Statement .inc_A := by unfold Statement; decide
theorem dec_A : Statement .dec_A := by unfold Statement; decide
theorem ld_A_n : Statement .ld_A_n := by unfold Statement; decide
theorem ccf : Statement .ccf := by unfold Statement; decide
theorem ld_B_B : Statement .ld_B_B := by unfold Statement; decide
theorem ld_B_C : Statement .ld_B_C := by unfold Statement; decide
theorem ld_B_D : Statement .ld_B_D := by unfold Statement; decide
theorem ld_B_E : Statement .ld_B_E := by unfold Statement; decide
theorem ld_B_H : Statement .ld_B_H := by unfold Statement; decide
theorem ld_B_L : Statement .ld_B_L := by unfold Statement; decide
theorem ld_B_mHL : Statement .ld_B_mHL := by unfold Statement; decide
theorem ld_B_A : Statement .ld_B_A := by unfold Statement; decide
theorem ld_C_B : Statement .ld_C_B := by unfold Statement; decide
theorem ld_C_C : Statement .ld_C_C := by unfold Statement; decide
theorem ld_C_D : Statement .ld_C_D := by unfold Statement; decide
theorem ld_C_E : Statement .ld_C_E := by unfold Statement; decide
theorem ld_C_H : Statement .ld_C_H := by unfold Statement; decide
theorem ld_C_L : Statement .ld_C_L := by unfold Statement; decide
theorem ld_C_mHL : Statement .ld_C_mHL := by unfold Statement; decide
theorem ld_C_A : Statement .ld_C_A := by unfold Statement; decide
theorem ld_D_B : Statement .ld_D_B := by unfold Statement; decide
theorem ld_D_C : Statement .ld_D_C := by unfold Statement; decide
theorem ld_D_D : Statement .ld_D_D := by unfold Statement; decide
theorem ld_D_E : Statement .ld_D_E := by unfold Statement; decide
theorem ld_D_H : Statement .ld_D_H := by unfold Statement; decide
theorem ld_D_L : Statement .ld_D_L := by unfold Statement; decide
theorem ld_D_mHL : Statement .ld_D_mHL := by unfold Statement; decide
theorem ld_D_A : Statement .ld_D_A := by unfold Statement; decide
theorem ld_E_B : Statement .ld_E_B := by unfold Statement; decide
theorem ld_E_C : Statement .ld_E_C := by unfold Statement; decide
theorem ld_E_D : Statement .ld_E_D := by unfold Statement; decide
theorem ld_E_E : Statement .ld_E_E := by unfold Statement; decide
theorem ld_E_H : Statement .ld_E_H := by unfold Statement; decide
theorem ld_E_L : Statement .ld_E_L := by unfold Statement; decide
theorem ld_E_mHL : Statement .ld_E_mHL := by unfold Statement; decide
theorem ld_E_A : Statement .ld_E_A := by unfold Statement; decide
theorem ld_H_B : Statement .ld_H_B := by unfold Statement; decide
theorem ld_H_C : Statement .ld_H_C := by unfold Statement; decide
theorem ld_H_D : Statement .ld_H_D := by unfold Statement; decide
theorem ld_H_E : Statement .ld_H_E := by unfold Statement; decide
theorem ld_H_H : Statement .ld_H_H := by unfold Statement; decide
theorem ld_H_L : Statement .ld_H_L := by unfold Statement; decide
theorem ld_H_mHL : Statement .ld_H_mHL := by unfold Statement; decide
theorem ld_H_A : Statement .ld_H_A := by unfold Statement; decide
theorem ld_L_B : Statement .ld_L_B := by unfold Statement; decide
theorem ld_L_C : Statement .ld_L_C := by unfold Statement; decide
theorem ld_L_D : Statement .ld_L_D := by unfold Statement; decide
theorem ld_L_E : Statement .ld_L_E := by unfold Statement; decide
theorem ld_L_H : Statement .ld_L_H := by unfold Statement; decide
theorem ld_L_L : Statement .ld_L_L := by unfold Statement; decide
theorem ld_L_mHL : Statement .ld_L_mHL := by unfold Statement; decide
theorem ld_L_A : Statement .ld_L_A := by unfold Statement; decide
theorem ld_mHL_B : Statement .ld_mHL_B := by unfold Statement; decide
theorem ld_mHL_C : Statement .ld_mHL_C := by unfold Statement; decide
theorem ld_mHL_D : Statement .ld_mHL_D := by unfold Statement; decide
theorem ld_mHL_E : Statement .ld_mHL_E := by unfold Statement; decide
theorem ld_mHL_H : Statement .ld_mHL_H := by unfold Statement; decide
theorem ld_mHL_L : Statement .ld_mHL_L := by unfold Statement; decide
theorem halt : Statement .halt := by unfold Statement; decide
theorem ld_mHL_A : Statement .ld_mHL_A := by unfold Statement; decide
theorem ld_A_B : Statement .ld_A_B := by unfold Statement; decide
theorem ld_A_C : Statement .ld_A_C := by unfold Statement; decide
theorem ld_A_D : Statement .ld_A_D := by unfold Statement; decide
theorem ld_A_E : Statement .ld_A_E := by unfold Statement; decide
theorem ld_A_H : Statement .ld_A_H := by unfold Statement; decide
theorem ld_A_L : Statement .ld_A_L := by unfold Statement; decide
theorem ld_A_mHL : Statement .ld_A_mHL := by unfold Statement; decide
theorem ld_A_A : Statement .ld_A_A := by unfold Statement; decide
theorem add_A_B : Statement .add_A_B := by unfold Statement; decide
theorem add_A_C : Statement .add_A_C := by unfold Statement; decide
theorem add_A_D : Statement .add_A_D := by unfold Statement; decide
theorem add_A_E : Statement .add_A_E := by unfold Statement; decide
theorem add_A_H : Statement .add_A_H := by unfold Statement; decide
theorem add_A_L : Statement .add_A_L := by unfold Statement; decide
theorem add_A_mHL : Statement .add_A_mHL := by unfold Statement; decide
theorem add_A_A : Statement .add_A_A := by unfold Statement; decide
theorem adc_A_B : Statement .adc_A_B := by unfold Statement; decide
theorem adc_A_C : Statement .adc_A_C := by unfold Statement; decide
theorem adc_A_D : Statement .adc_A_D := by unfold Statement; decide
theorem adc_A_E : Statement .adc_A_E := by unfold Statement; decide
theorem adc_A_H : Statement .adc_A_H := by unfold Statement; decide
theorem adc_A_L : Statement .adc_A_L := by unfold Statement; decide
theorem adc_A_mHL : Statement .adc_A_mHL := by unfold Statement; decide
theorem adc_A_A : Statement .adc_A_A := by unfold Statement; decide
theorem sub_B : Statement .sub_B := by unfold Statement; decide
theorem sub_C : Statement .sub_C := by unfold Statement; decide
theorem sub_D : Statement .sub_D := by unfold Statement; decide
theorem sub_E : Statement .sub_E := by unfold Statement; decide
theorem sub_H : Statement .sub_H := by unfold Statement; decide
theorem sub_L : Statement .sub_L := by unfold Statement; decide
theorem sub_mHL : Statement .sub_mHL := by unfold Statement; decide
theorem sub_A : Statement .sub_A := by unfold Statement; decide
theorem sbc_A_B : Statement .sbc_A_B := by unfold Statement; decide
theorem sbc_A_C : Statement .sbc_A_C := by unfold Statement; decide
theorem sbc_A_D : Statement .sbc_A_D := by unfold Statement; decide
theorem sbc_A_E : Statement .sbc_A_E := by unfold Statement; decide
theorem sbc_A_H : Statement .sbc_A_H := by unfold Statement; decide
theorem sbc_A_L : Statement .sbc_A_L := by unfold Statement; decide
theorem sbc_A_mHL : Statement .sbc_A_mHL := by unfold Statement; decide
theorem sbc_A_A : Statement .sbc_A_A := by unfold Statement; decide
theorem and_B : Statement .and_B := by unfold Statement; decide
theorem and_C : Statement .and_C := by unfold Statement; decide
theorem and_D : Statement .and_D := by unfold Statement; decide
theorem and_E : Statement .and_E := by unfold Statement; decide
theorem and_H : Statement .and_H := by unfold Statement; decide
theorem and_L : Statement .and_L := by unfold Statement; decide
theorem and_mHL : Statement .and_mHL := by unfold Statement; decide
theorem and_A : Statement .and_A := by unfold Statement; decide
theorem xor_B : Statement .xor_B := by unfold Statement; decide
theorem xor_C : Statement .xor_C := by unfold Statement; decide
theorem xor_D : Statement .xor_D := by unfold Statement; decide
theorem xor_E : Statement .xor_E := by unfold Statement; decide
theorem xor_H : Statement .xor_H := by unfold Statement; decide
theorem xor_L : Statement .xor_L := by unfold Statement; decide
theorem xor_mHL : Statement .xor_mHL := by unfold Statement; decide
theorem xor_A : Statement .xor_A := by unfold Statement; decide
theorem or_B : Statement .or_B := by unfold Statement; decide
theorem or_C : Statement .or_C := by unfold Statement; decide
theorem or_D : Statement .or_D := by unfold Statement; decide
theorem or_E : Statement .or_E := by unfold Statement; decide
theorem or_H : Statement .or_H := by unfold Statement; decide
theorem or_L : Statement .or_L := by unfold Statement; decide
theorem or_mHL : Statement .or_mHL := by unfold Statement; decide
theorem or_A : Statement .or_A := by unfold Statement; decide
theorem cp_B : Statement .cp_B := by unfold Statement; decide
theorem cp_C : Statement .cp_C := by unfold Statement; decide
theorem cp_D : Statement .cp_D := by unfold Statement; decide
theorem cp_E : Statement .cp_E := by unfold Statement; decide
theorem cp_H : Statement .cp_H := by unfold Statement; decide
theorem cp_L : Statement .cp_L := by unfold Statement; decide
theorem cp_mHL : Statement .cp_mHL := by unfold Statement; decide
theorem cp_A : Statement .cp_A := by unfold Statement; decide
theorem ret_NZ : Statement .ret_NZ := by unfold Statement; decide
theorem pop_BC : Statement .pop_BC := by unfold Statement; decide
theorem jp_NZ_nn : Statement .jp_NZ_nn := by unfold Statement; decide
theorem jp_nn : Statement .jp_nn := by unfold Statement; decide
theorem call_NZ_nn : Statement .call_NZ_nn := by unfold Statement; decide
theorem push_BC : Statement .push_BC := by unfold Statement; decide
theorem add_A_n : Statement .add_A_n := by unfold Statement; decide
theorem rst_00 : Statement .rst_00 := by unfold Statement; decide
theorem ret_Z : Statement .ret_Z := by unfold Statement; decide
theorem ret : Statement .ret := by unfold Statement; decide
theorem jp_Z_nn : Statement .jp_Z_nn := by unfold Statement; decide
theorem prefixCB : Statement .prefixCB := by unfold Statement; decide
theorem call_Z_nn : Statement .call_Z_nn := by unfold Statement; decide
theorem call_nn : Statement .call_nn := by unfold Statement; decide
theorem adc_A_n : Statement .adc_A_n := by unfold Statement; decide
theorem rst_08 : Statement .rst_08 := by unfold Statement; decide
theorem ret_NC : Statement .ret_NC := by unfold Statement; decide
theorem pop_DE : Statement .pop_DE := by unfold Statement; decide
theorem jp_NC_nn : Statement .jp_NC_nn := by unfold Statement; decide
theorem undefined_D3 : Statement .undefined_D3 := by unfold Statement; decide
theorem call_NC_nn : Statement .call_NC_nn := by unfold Statement; decide
theorem push_DE : Statement .push_DE := by unfold Statement; decide
theorem sub_n : Statement .sub_n := by unfold Statement; decide
theorem rst_10 : Statement .rst_10 := by unfold Statement; decide
theorem ret_C : Statement .ret_C := by unfold Statement; decide
theorem reti : Statement .reti := by unfold Statement; decide
theorem jp_C_nn : Statement .jp_C_nn := by unfold Statement; decide
theorem undefined_DB : Statement .undefined_DB := by unfold Statement; decide
theorem call_C_nn : Statement .call_C_nn := by unfold Statement; decide
theorem undefined_DD : Statement .undefined_DD := by unfold Statement; decide
theorem sbc_A_n : Statement .sbc_A_n := by unfold Statement; decide
theorem rst_18 : Statement .rst_18 := by unfold Statement; decide
theorem ldh_mn_A : Statement .ldh_mn_A := by unfold Statement; decide
theorem pop_HL : Statement .pop_HL := by unfold Statement; decide
theorem ld_mC_A : Statement .ld_mC_A := by unfold Statement; decide
theorem undefined_E3 : Statement .undefined_E3 := by unfold Statement; decide
theorem undefined_E4 : Statement .undefined_E4 := by unfold Statement; decide
theorem push_HL : Statement .push_HL := by unfold Statement; decide
theorem and_n : Statement .and_n := by unfold Statement; decide
theorem rst_20 : Statement .rst_20 := by unfold Statement; decide
theorem add_SP_e : Statement .add_SP_e := by unfold Statement; decide
theorem jp_HL : Statement .jp_HL := by unfold Statement; decide
theorem ld_mnn_A : Statement .ld_mnn_A := by unfold Statement; decide
theorem undefined_EB : Statement .undefined_EB := by unfold Statement; decide
theorem undefined_EC : Statement .undefined_EC := by unfold Statement; decide
theorem undefined_ED : Statement .undefined_ED := by unfold Statement; decide
theorem xor_n : Statement .xor_n := by unfold Statement; decide
theorem rst_28 : Statement .rst_28 := by unfold Statement; decide
theorem ldh_A_mn : Statement .ldh_A_mn := by unfold Statement; decide
theorem pop_AF : Statement .pop_AF := by unfold Statement; decide
theorem ld_A_mC : Statement .ld_A_mC := by unfold Statement; decide
theorem di : Statement .di := by unfold Statement; decide
theorem undefined_F4 : Statement .undefined_F4 := by unfold Statement; decide
theorem push_AF : Statement .push_AF := by unfold Statement; decide
theorem or_n : Statement .or_n := by unfold Statement; decide
theorem rst_30 : Statement .rst_30 := by unfold Statement; decide
theorem ld_HL_SPe : Statement .ld_HL_SPe := by unfold Statement; decide
theorem ld_SP_HL : Statement .ld_SP_HL := by unfold Statement; decide
theorem ld_A_mnn : Statement .ld_A_mnn := by unfold Statement; decide
theorem ei : Statement .ei := by unfold Statement; decide
theorem undefined_FC : Statement .undefined_FC := by unfold Statement; decide
theorem undefined_FD : Statement .undefined_FD := by unfold Statement; decide
theorem cp_n : Statement .cp_n := by unfold Statement; decide
theorem rst_38 : Statement .rst_38 := by unfold Statement; decide
theorem rlc_B : Statement .rlc_B := by unfold Statement; decide
theorem rlc_C : Statement .rlc_C := by unfold Statement; decide
theorem rlc_D : Statement .rlc_D := by unfold Statement; decide
theorem rlc_E : Statement .rlc_E := by unfold Statement; decide
theorem rlc_H : Statement .rlc_H := by unfold Statement; decide
theorem rlc_L : Statement .rlc_L := by unfold Statement; decide
theorem rlc_mHL : Statement .rlc_mHL := by unfold Statement; decide
theorem rlc_A : Statement .rlc_A := by unfold Statement; decide
theorem rrc_B : Statement .rrc_B := by unfold Statement; decide
theorem rrc_C : Statement .rrc_C := by unfold Statement; decide
theorem rrc_D : Statement .rrc_D := by unfold Statement; decide
theorem rrc_E : Statement .rrc_E := by unfold Statement; decide
theorem rrc_H : Statement .rrc_H := by unfold Statement; decide
theorem rrc_L : Statement .rrc_L := by unfold Statement; decide
theorem rrc_mHL : Statement .rrc_mHL := by unfold Statement; decide
theorem rrc_A : Statement .rrc_A := by unfold Statement; decide
theorem rl_B : Statement .rl_B := by unfold Statement; decide
theorem rl_C : Statement .rl_C := by unfold Statement; decide
theorem rl_D : Statement .rl_D := by unfold Statement; decide
theorem rl_E : Statement .rl_E := by unfold Statement; decide
theorem rl_H : Statement .rl_H := by unfold Statement; decide
theorem rl_L : Statement .rl_L := by unfold Statement; decide
theorem rl_mHL : Statement .rl_mHL := by unfold Statement; decide
theorem rl_A : Statement .rl_A := by unfold Statement; decide
theorem rr_B : Statement .rr_B := by unfold Statement; decide
theorem rr_C : Statement .rr_C := by unfold Statement; decide
theorem rr_D : Statement .rr_D := by unfold Statement; decide
theorem rr_E : Statement .rr_E := by unfold Statement; decide
theorem rr_H : Statement .rr_H := by unfold Statement; decide
theorem rr_L : Statement .rr_L := by unfold Statement; decide
theorem rr_mHL : Statement .rr_mHL := by unfold Statement; decide
theorem rr_A : Statement .rr_A := by unfold Statement; decide
theorem sla_B : Statement .sla_B := by unfold Statement; decide
theorem sla_C : Statement .sla_C := by unfold Statement; decide
theorem sla_D : Statement .sla_D := by unfold Statement; decide
theorem sla_E : Statement .sla_E := by unfold Statement; decide
theorem sla_H : Statement .sla_H := by unfold Statement; decide
theorem sla_L : Statement .sla_L := by unfold Statement; decide
theorem sla_mHL : Statement .sla_mHL := by unfold Statement; decide
theorem sla_A : Statement .sla_A := by unfold Statement; decide
theorem sra_B : Statement .sra_B := by unfold Statement; decide
theorem sra_C : Statement .sra_C := by unfold Statement; decide
theorem sra_D : Statement .sra_D := by unfold Statement; decide
theorem sra_E : Statement .sra_E := by unfold Statement; decide
theorem sra_H : Statement .sra_H := by unfold Statement; decide
theorem sra_L : Statement .sra_L := by unfold Statement; decide
theorem sra_mHL : Statement .sra_mHL := by unfold Statement; decide
theorem sra_A : Statement .sra_A := by unfold Statement; decide
theorem swap_B : Statement .swap_B := by unfold Statement; decide
theorem swap_C : Statement .swap_C := by unfold Statement; decide
theorem swap_D : Statement .swap_D := by unfold Statement; decide
theorem swap_E : Statement .swap_E := by unfold Statement; decide
theorem swap_H : Statement .swap_H := by unfold Statement; decide
theorem swap_L : Statement .swap_L := by unfold Statement; decide
theorem swap_mHL : Statement .swap_mHL := by unfold Statement; decide
theorem swap_A : Statement .swap_A := by unfold Statement; decide
theorem srl_B : Statement .srl_B := by unfold Statement; decide
theorem srl_C : Statement .srl_C := by unfold Statement; decide
theorem srl_D : Statement .srl_D := by unfold Statement; decide
theorem srl_E : Statement .srl_E := by unfold Statement; decide
theorem srl_H : Statement .srl_H := by unfold Statement; decide
theorem srl_L : Statement .srl_L := by unfold Statement; decide
theorem srl_mHL : Statement .srl_mHL := by unfold Statement; decide
theorem srl_A : Statement .srl_A := by unfold Statement; decide
theorem bit_0_B : Statement .bit_0_B := by unfold Statement; decide
theorem bit_0_C : Statement .bit_0_C := by unfold Statement; decide
theorem bit_0_D : Statement .bit_0_D := by unfold Statement; decide
theorem bit_0_E : Statement .bit_0_E := by unfold Statement; decide
theorem bit_0_H : Statement .bit_0_H := by unfold Statement; decide
theorem bit_0_L : Statement .bit_0_L := by unfold Statement; decide
theorem bit_0_mHL : Statement .bit_0_mHL := by unfold Statement; decide
theorem bit_0_A : Statement .bit_0_A := by unfold Statement; decide
theorem bit_1_B : Statement .bit_1_B := by unfold Statement; decide
theorem bit_1_C : Statement .bit_1_C := by unfold Statement; decide
theorem bit_1_D : Statement .bit_1_D := by unfold Statement; decide
theorem bit_1_E : Statement .bit_1_E := by unfold Statement; decide
theorem bit_1_H : Statement .bit_1_H := by unfold Statement; decide
theorem bit_1_L : Statement .bit_1_L := by unfold Statement; decide
theorem bit_1_mHL : Statement .bit_1_mHL := by unfold Statement; decide
theorem bit_1_A : Statement .bit_1_A := by unfold Statement; decide
theorem bit_2_B : Statement .bit_2_B := by unfold Statement; decide
theorem bit_2_C : Statement .bit_2_C := by unfold Statement; decide
theorem bit_2_D : Statement .bit_2_D := by unfold Statement; decide
theorem bit_2_E : Statement .bit_2_E := by unfold Statement; decide
theorem bit_2_H : Statement .bit_2_H := by unfold Statement; decide
theorem bit_2_L : Statement .bit_2_L := by unfold Statement; decide
theorem bit_2_mHL : Statement .bit_2_mHL := by unfold Statement; decide
theorem bit_2_A : Statement .bit_2_A := by unfold Statement; decide
theorem bit_3_B : Statement .bit_3_B := by unfold Statement; decide
theorem bit_3_C : Statement .bit_3_C := by unfold Statement; decide
theorem bit_3_D : Statement .bit_3_D := by unfold Statement; decide
theorem bit_3_E : Statement .bit_3_E := by unfold Statement; decide
theorem bit_3_H : Statement .bit_3_H := by unfold Statement; decide
theorem bit_3_L : Statement .bit_3_L := by unfold Statement; decide
theorem bit_3_mHL : Statement .bit_3_mHL := by unfold Statement; decide
theorem bit_3_A : Statement .bit_3_A := by unfold Statement; decide
theorem bit_4_B : Statement .bit_4_B := by unfold Statement; decide
theorem bit_4_C : Statement .bit_4_C := by unfold Statement; decide
theorem bit_4_D : Statement .bit_4_D := by unfold Statement; decide
theorem bit_4_E : Statement .bit_4_E := by unfold Statement; decide
theorem bit_4_H : Statement .bit_4_H := by unfold Statement; decide
theorem bit_4_L : Statement .bit_4_L := by unfold Statement; decide
theorem bit_4_mHL : Statement .bit_4_mHL := by unfold Statement; decide
theorem bit_4_A : Statement .bit_4_A := by unfold Statement; decide
theorem bit_5_B : Statement .bit_5_B := by unfold Statement; decide
theorem bit_5_C : Statement .bit_5_C := by unfold Statement; decide
theorem bit_5_D : Statement .bit_5_D := by unfold Statement; decide
theorem bit_5_E : Statement .bit_5_E := by unfold Statement; decide
theorem bit_5_H : Statement .bit_5_H := by unfold Statement; decide
theorem bit_5_L : Statement .bit_5_L := by unfold Statement; decide
theorem bit_5_mHL : Statement .bit_5_mHL := by unfold Statement; decide
theorem bit_5_A : Statement .bit_5_A := by unfold Statement; decide
theorem bit_6_B : Statement .bit_6_B := by unfold Statement; decide
theorem bit_6_C : Statement .bit_6_C := by unfold Statement; decide
theorem bit_6_D : Statement .bit_6_D := by unfold Statement; decide
theorem bit_6_E : Statement .bit_6_E := by unfold Statement; decide
theorem bit_6_H : Statement .bit_6_H := by unfold Statement; decide
theorem bit_6_L : Statement .bit_6_L := by unfold Statement; decide
theorem bit_6_mHL : Statement .bit_6_mHL := by unfold Statement; decide
theorem bit_6_A : Statement .bit_6_A := by unfold Statement; decide
theorem bit_7_B : Statement .bit_7_B := by unfold Statement; decide
theorem bit_7_C : Statement .bit_7_C := by unfold Statement; decide
theorem bit_7_D : Statement .bit_7_D := by unfold Statement; decide
theorem bit_7_E : Statement .bit_7_E := by unfold Statement; decide
theorem bit_7_H : Statement .bit_7_H := by unfold Statement; decide
theorem bit_7_L : Statement .bit_7_L := by unfold Statement; decide
theorem bit_7_mHL : Statement .bit_7_mHL := by unfold Statement; decide
theorem bit_7_A : Statement .bit_7_A := by unfold Statement; decide
theorem res_0_B : Statement .res_0_B := by unfold Statement; decide
theorem res_0_C : Statement .res_0_C := by unfold Statement; decide
theorem res_0_D : Statement .res_0_D := by unfold Statement; decide
theorem res_0_E : Statement .res_0_E := by unfold Statement; decide
theorem res_0_H : Statement .res_0_H := by unfold Statement; decide
theorem res_0_L : Statement .res_0_L := by unfold Statement; decide
theorem res_0_mHL : Statement .res_0_mHL := by unfold Statement; decide
theorem res_0_A : Statement .res_0_A := by unfold Statement; decide
theorem res_1_B : Statement .res_1_B := by unfold Statement; decide
theorem res_1_C : Statement .res_1_C := by unfold Statement; decide
theorem res_1_D : Statement .res_1_D := by unfold Statement; decide
theorem res_1_E : Statement .res_1_E := by unfold Statement; decide
theorem res_1_H : Statement .res_1_H := by unfold Statement; decide
theorem res_1_L : Statement .res_1_L := by unfold Statement; decide
theorem res_1_mHL : Statement .res_1_mHL := by unfold Statement; decide
theorem res_1_A : Statement .res_1_A := by unfold Statement; decide
theorem res_2_B : Statement .res_2_B := by unfold Statement; decide
theorem res_2_C : Statement .res_2_C := by unfold Statement; decide
theorem res_2_D : Statement .res_2_D := by unfold Statement; decide
theorem res_2_E : Statement .res_2_E := by unfold Statement; decide
theorem res_2_H : Statement .res_2_H := by unfold Statement; decide
theorem res_2_L : Statement .res_2_L := by unfold Statement; decide
theorem res_2_mHL : Statement .res_2_mHL := by unfold Statement; decide
theorem res_2_A : Statement .res_2_A := by unfold Statement; decide
theorem res_3_B : Statement .res_3_B := by unfold Statement; decide
theorem res_3_C : Statement .res_3_C := by unfold Statement; decide
theorem res_3_D : Statement .res_3_D := by unfold Statement; decide
theorem res_3_E : Statement .res_3_E := by unfold Statement; decide
theorem res_3_H : Statement .res_3_H := by unfold Statement; decide
theorem res_3_L : Statement .res_3_L := by unfold Statement; decide
theorem res_3_mHL : Statement .res_3_mHL := by unfold Statement; decide
theorem res_3_A : Statement .res_3_A := by unfold Statement; decide
theorem res_4_B : Statement .res_4_B := by unfold Statement; decide
theorem res_4_C : Statement .res_4_C := by unfold Statement; decide
theorem res_4_D : Statement .res_4_D := by unfold Statement; decide
theorem res_4_E : Statement .res_4_E := by unfold Statement; decide
theorem res_4_H : Statement .res_4_H := by unfold Statement; decide
theorem res_4_L : Statement .res_4_L := by unfold Statement; decide
theorem res_4_mHL : Statement .res_4_mHL := by unfold Statement; decide
theorem res_4_A : Statement .res_4_A := by unfold Statement; decide
theorem res_5_B : Statement .res_5_B := by unfold Statement; decide
theorem res_5_C : Statement .res_5_C := by unfold Statement; decide
theorem res_5_D : Statement .res_5_D := by unfold Statement; decide
theorem res_5_E : Statement .res_5_E := by unfold Statement; decide
theorem res_5_H : Statement .res_5_H := by unfold Statement; decide
theorem res_5_L : Statement .res_5_L := by unfold Statement; decide
theorem res_5_mHL : Statement .res_5_mHL := by unfold Statement; decide
theorem res_5_A : Statement .res_5_A := by unfold Statement; decide
theorem res_6_B : Statement .res_6_B := by unfold Statement; decide
theorem res_6_C : Statement .res_6_C := by unfold Statement; decide
theorem res_6_D : Statement .res_6_D := by unfold Statement; decide
theorem res_6_E : Statement .res_6_E := by unfold Statement; decide
theorem res_6_H : Statement .res_6_H := by unfold Statement; decide
theorem res_6_L : Statement .res_6_L := by unfold Statement; decide
theorem res_6_mHL : Statement .res_6_mHL := by unfold Statement; decide
theorem res_6_A : Statement .res_6_A := by unfold Statement; decide
theorem res_7_B : Statement .res_7_B := by unfold Statement; decide
theorem res_7_C : Statement .res_7_C := by unfold Statement; decide
theorem res_7_D : Statement .res_7_D := by unfold Statement; decide
theorem res_7_E : Statement .res_7_E := by unfold Statement; decide
theorem res_7_H : Statement .res_7_H := by unfold Statement; decide
theorem res_7_L : Statement .res_7_L := by unfold Statement; decide
theorem res_7_mHL : Statement .res_7_mHL := by unfold Statement; decide
theorem res_7_A : Statement .res_7_A := by unfold Statement; decide
theorem set_0_B : Statement .set_0_B := by unfold Statement; decide
theorem set_0_C : Statement .set_0_C := by unfold Statement; decide
theorem set_0_D : Statement .set_0_D := by unfold Statement; decide
theorem set_0_E : Statement .set_0_E := by unfold Statement; decide
theorem set_0_H : Statement .set_0_H := by unfold Statement; decide
theorem set_0_L : Statement .set_0_L := by unfold Statement; decide
theorem set_0_mHL : Statement .set_0_mHL := by unfold Statement; decide
theorem set_0_A : Statement .set_0_A := by unfold Statement; decide
theorem set_1_B : Statement .set_1_B := by unfold Statement; decide
theorem set_1_C : Statement .set_1_C := by unfold Statement; decide
theorem set_1_D : Statement .set_1_D := by unfold Statement; decide
theorem set_1_E : Statement .set_1_E := by unfold Statement; decide
theorem set_1_H : Statement .set_1_H := by unfold Statement; decide
theorem set_1_L : Statement .set_1_L := by unfold Statement; decide
theorem set_1_mHL : Statement .set_1_mHL := by unfold Statement; decide
theorem set_1_A : Statement .set_1_A := by unfold Statement; decide
theorem set_2_B : Statement .set_2_B := by unfold Statement; decide
theorem set_2_C : Statement .set_2_C := by unfold Statement; decide
theorem set_2_D : Statement .set_2_D := by unfold Statement; decide
theorem set_2_E : Statement .set_2_E := by unfold Statement; decide
theorem set_2_H : Statement .set_2_H := by unfold Statement; decide
theorem set_2_L : Statement .set_2_L := by unfold Statement; decide
theorem set_2_mHL : Statement .set_2_mHL := by unfold Statement; decide
theorem set_2_A : Statement .set_2_A := by unfold Statement; decide
theorem set_3_B : Statement .set_3_B := by unfold Statement; decide
theorem set_3_C : Statement .set_3_C := by unfold Statement; decide
theorem set_3_D : Statement .set_3_D := by unfold Statement; decide
theorem set_3_E : Statement .set_3_E := by unfold Statement; decide
theorem set_3_H : Statement .set_3_H := by unfold Statement; decide
theorem set_3_L : Statement .set_3_L := by unfold Statement; decide
theorem set_3_mHL : Statement .set_3_mHL := by unfold Statement; decide
theorem set_3_A : Statement .set_3_A := by unfold Statement; decide
theorem set_4_B : Statement .set_4_B := by unfold Statement; decide
theorem set_4_C : Statement .set_4_C := by unfold Statement; decide
theorem set_4_D : Statement .set_4_D := by unfold Statement; decide
theorem set_4_E : Statement .set_4_E := by unfold Statement; decide
theorem set_4_H : Statement .set_4_H := by unfold Statement; decide
theorem set_4_L : Statement .set_4_L := by unfold Statement; decide
theorem set_4_mHL : Statement .set_4_mHL := by unfold Statement; decide
theorem set_4_A : Statement .set_4_A := by unfold Statement; decide
theorem set_5_B : Statement .set_5_B := by unfold Statement; decide
theorem set_5_C : Statement .set_5_C := by unfold Statement; decide
theorem set_5_D : Statement .set_5_D := by unfold Statement; decide
theorem set_5_E : Statement .set_5_E := by unfold Statement; decide
theorem set_5_H : Statement .set_5_H := by unfold Statement; decide
theorem set_5_L : Statement .set_5_L := by unfold Statement; decide
theorem set_5_mHL : Statement .set_5_mHL := by unfold Statement; decide
theorem set_5_A : Statement .set_5_A := by unfold Statement; decide
theorem set_6_B : Statement .set_6_B := by unfold Statement; decide
theorem set_6_C : Statement .set_6_C := by unfold Statement; decide
theorem set_6_D : Statement .set_6_D := by unfold Statement; decide
theorem set_6_E : Statement .set_6_E := by unfold Statement; decide
theorem set_6_H : Statement .set_6_H := by unfold Statement; decide
theorem set_6_L : Statement .set_6_L := by unfold Statement; decide
theorem set_6_mHL : Statement .set_6_mHL := by unfold Statement; decide
theorem set_6_A : Statement .set_6_A := by unfold Statement; decide
theorem set_7_B : Statement .set_7_B := by unfold Statement; decide
theorem set_7_C : Statement .set_7_C := by unfold Statement; decide
theorem set_7_D : Statement .set_7_D := by unfold Statement; decide
theorem set_7_E : Statement .set_7_E := by unfold Statement; decide
theorem set_7_H : Statement .set_7_H := by unfold Statement; decide
theorem set_7_L : Statement .set_7_L := by unfold Statement; decide
theorem set_7_mHL : Statement .set_7_mHL := by unfold Statement; decide
theorem set_7_A : Statement .set_7_A := by unfold Statement; decide

end Sys2Proof.Laws.RecordLength
end

