-- ==== Sys2Proof/Tests/Slice0.lean ====
section
/-! SUPPORT. The model's own tests: what WellFormed and Decode refuse, every opcode byte's decoding written out bit by bit from the encoding patterns, one-step tests on the spec's worked examples, and a witness for the hypotheses of every statement. -/

namespace Sys2Proof.Tests

open Sys2Proof Sys2Proof.Machine

/-! ### Small states -/

/-- Every register and F zero, no memory, no delegate, nothing done on the bus; SP at 0xD000 and PC just past an opcode
at 0xC000. -/
def blank : State where
  a := 0
  f := 0
  b := 0
  c := 0
  d := 0
  e := 0
  h := 0
  l := 0
  pc := 0xC001
  sp := 0xD000
  ime := false
  imeScheduled := false
  haltMode := false
  stopMode := false
  prefixPending := false
  record := none
  fault := none
  mem := []
  delegatedRead := []
  delegatedWrite := []
  bus := []
  cycles := 0

/-- The record of the instruction at byte `op` of a table, `k` of its cycles run or begun, its scratch bytes 0. -/
def recordOf (tbl : Table) (op : Byte) (k : BitVec 3) : Record where
  op := op
  table := tbl
  len := (rowOf tbl op).form.cycles
  remaining := (rowOf tbl op).form.cycles - k
  i := k
  lo := 0
  hi := 0
  n := 0
  e := 0
  t := 0

/-- A state as a meaning finds it in cycle `k` of the instruction at byte `op`. -/
def inCycle (tbl : Table) (op : Byte) (k : BitVec 3) : State :=
  { blank with record := some { recordOf tbl op k with remaining := (recordOf tbl op k).remaining + 1 } }

/-- `s` with the instruction at byte `op` freshly fetched. -/
def fresh (tbl : Table) (op : Byte) (s : State) : State := { s with record := some (recordOf tbl op 0) }

/-- `s` with `k` cycles of the instruction at byte `op` run, and scratch bytes all `v`. -/
def midway (tbl : Table) (op : Byte) (k : BitVec 3) (v : Byte) (s : State) : State :=
  { s with record := some { recordOf tbl op k with lo := v, hi := v, n := v, e := v, t := v } }

/-- What holds of the state that one step from `s` answers. -/
def after (s : State) (p : State → Bool) : Bool :=
  match step s with
  | .next t => p t
  | .fault _ => false
  | .refused _ => false

/-- The byte at an address of a state's backing store. -/
def byteAt (s : State) (addr : Word) : Byte := Memory.read s.mem addr

/-- `s` with one byte stored. -/
def withByte (s : State) (addr : Word) (v : Byte) : State := { s with mem := Memory.write s.mem addr v }

/-! ### WellFormed and Decode refuse the eleven undefined bytes, R82 -/

theorem test_illFormed_D3 :
    Instr.wellFormed .undefined_D3 = false ∧ decodeBase 0b11010011#8 = .error (.undefinedOpcode 0xD3#8) ∧
      decodeTableWord 8 0xD3 = none := by decide

theorem test_illFormed_DB :
    Instr.wellFormed .undefined_DB = false ∧ decodeBase 0b11011011#8 = .error (.undefinedOpcode 0xDB#8) ∧
      decodeTableWord 8 0xDB = none := by decide

theorem test_illFormed_DD :
    Instr.wellFormed .undefined_DD = false ∧ decodeBase 0b11011101#8 = .error (.undefinedOpcode 0xDD#8) ∧
      decodeTableWord 8 0xDD = none := by decide

theorem test_illFormed_E3 :
    Instr.wellFormed .undefined_E3 = false ∧ decodeBase 0b11100011#8 = .error (.undefinedOpcode 0xE3#8) ∧
      decodeTableWord 8 0xE3 = none := by decide

theorem test_illFormed_E4 :
    Instr.wellFormed .undefined_E4 = false ∧ decodeBase 0b11100100#8 = .error (.undefinedOpcode 0xE4#8) ∧
      decodeTableWord 8 0xE4 = none := by decide

theorem test_illFormed_EB :
    Instr.wellFormed .undefined_EB = false ∧ decodeBase 0b11101011#8 = .error (.undefinedOpcode 0xEB#8) ∧
      decodeTableWord 8 0xEB = none := by decide

theorem test_illFormed_EC :
    Instr.wellFormed .undefined_EC = false ∧ decodeBase 0b11101100#8 = .error (.undefinedOpcode 0xEC#8) ∧
      decodeTableWord 8 0xEC = none := by decide

theorem test_illFormed_ED :
    Instr.wellFormed .undefined_ED = false ∧ decodeBase 0b11101101#8 = .error (.undefinedOpcode 0xED#8) ∧
      decodeTableWord 8 0xED = none := by decide

theorem test_illFormed_F4 :
    Instr.wellFormed .undefined_F4 = false ∧ decodeBase 0b11110100#8 = .error (.undefinedOpcode 0xF4#8) ∧
      decodeTableWord 8 0xF4 = none := by decide

theorem test_illFormed_FC :
    Instr.wellFormed .undefined_FC = false ∧ decodeBase 0b11111100#8 = .error (.undefinedOpcode 0xFC#8) ∧
      decodeTableWord 8 0xFC = none := by decide

theorem test_illFormed_FD :
    Instr.wellFormed .undefined_FD = false ∧ decodeBase 0b11111101#8 = .error (.undefinedOpcode 0xFD#8) ∧
      decodeTableWord 8 0xFD = none := by decide

theorem test_noBytes_refused : decodeBytes [] = .error .noByte := by decide

theorem test_memory_illFormed_order : ¬ Memory.wf [(5, 1#8), (5, 2#8)] := by decide

theorem test_memory_illFormed_unlisted : ¬ Memory.wf [(5, 0#8)] := by decide

theorem test_memory_illFormed_range : ¬ Memory.wf [(65536, 1#8)] := by decide

theorem test_platform_doubleRegistration : ¬ State.platformWf { blank with delegatedRead := [0xFF00#16, 0xFF00#16] } := by
  unfold State.platformWf; decide

/-! ### Decoding: each byte of the two tables, its bits written out (30_encoding.md R92, R93), one row of sixteen each -/

/-- Every word of a list decodes to the instruction beside it, in the base table. -/
def decodesBase (rows : List (Byte × Instr)) : Bool := rows.all fun x => decodeBytes [x.1] == .ok x.2

/-- Every word of a list, after the escape byte 11001011, decodes to the instruction beside it. -/
def decodesPrefixed (rows : List (Byte × Instr)) : Bool := rows.all fun x => decodeBytes [0b11001011#8, x.1] == .ok x.2

theorem test_decode_base_0x :
    decodesBase [
      (0b00000000#8, .nop), (0b00000001#8, .ld_BC_nn), (0b00000010#8, .ld_mBC_A), (0b00000011#8, .inc_BC),
      (0b00000100#8, .inc_B), (0b00000101#8, .dec_B), (0b00000110#8, .ld_B_n), (0b00000111#8, .rlca),
      (0b00001000#8, .ld_mnn_SP), (0b00001001#8, .add_HL_BC), (0b00001010#8, .ld_A_mBC), (0b00001011#8, .dec_BC),
      (0b00001100#8, .inc_C), (0b00001101#8, .dec_C), (0b00001110#8, .ld_C_n), (0b00001111#8, .rrca)] = true := by decide

theorem test_decode_base_1x :
    decodesBase [
      (0b00010000#8, .stop), (0b00010001#8, .ld_DE_nn), (0b00010010#8, .ld_mDE_A), (0b00010011#8, .inc_DE),
      (0b00010100#8, .inc_D), (0b00010101#8, .dec_D), (0b00010110#8, .ld_D_n), (0b00010111#8, .rla),
      (0b00011000#8, .jr_e), (0b00011001#8, .add_HL_DE), (0b00011010#8, .ld_A_mDE), (0b00011011#8, .dec_DE),
      (0b00011100#8, .inc_E), (0b00011101#8, .dec_E), (0b00011110#8, .ld_E_n), (0b00011111#8, .rra)] = true := by decide

theorem test_decode_base_2x :
    decodesBase [
      (0b00100000#8, .jr_NZ_e), (0b00100001#8, .ld_HL_nn), (0b00100010#8, .ld_mHLi_A), (0b00100011#8, .inc_HL),
      (0b00100100#8, .inc_H), (0b00100101#8, .dec_H), (0b00100110#8, .ld_H_n), (0b00100111#8, .daa),
      (0b00101000#8, .jr_Z_e), (0b00101001#8, .add_HL_HL), (0b00101010#8, .ld_A_mHLi), (0b00101011#8, .dec_HL),
      (0b00101100#8, .inc_L), (0b00101101#8, .dec_L), (0b00101110#8, .ld_L_n), (0b00101111#8, .cpl)] = true := by decide

theorem test_decode_base_3x :
    decodesBase [
      (0b00110000#8, .jr_NC_e), (0b00110001#8, .ld_SP_nn), (0b00110010#8, .ld_mHLd_A), (0b00110011#8, .inc_SP),
      (0b00110100#8, .inc_mHL), (0b00110101#8, .dec_mHL), (0b00110110#8, .ld_mHL_n), (0b00110111#8, .scf),
      (0b00111000#8, .jr_C_e), (0b00111001#8, .add_HL_SP), (0b00111010#8, .ld_A_mHLd), (0b00111011#8, .dec_SP),
      (0b00111100#8, .inc_A), (0b00111101#8, .dec_A), (0b00111110#8, .ld_A_n), (0b00111111#8, .ccf)] = true := by decide

theorem test_decode_base_4x :
    decodesBase [
      (0b01000000#8, .ld_B_B), (0b01000001#8, .ld_B_C), (0b01000010#8, .ld_B_D), (0b01000011#8, .ld_B_E),
      (0b01000100#8, .ld_B_H), (0b01000101#8, .ld_B_L), (0b01000110#8, .ld_B_mHL), (0b01000111#8, .ld_B_A),
      (0b01001000#8, .ld_C_B), (0b01001001#8, .ld_C_C), (0b01001010#8, .ld_C_D), (0b01001011#8, .ld_C_E),
      (0b01001100#8, .ld_C_H), (0b01001101#8, .ld_C_L), (0b01001110#8, .ld_C_mHL), (0b01001111#8, .ld_C_A)] = true := by decide

theorem test_decode_base_5x :
    decodesBase [
      (0b01010000#8, .ld_D_B), (0b01010001#8, .ld_D_C), (0b01010010#8, .ld_D_D), (0b01010011#8, .ld_D_E),
      (0b01010100#8, .ld_D_H), (0b01010101#8, .ld_D_L), (0b01010110#8, .ld_D_mHL), (0b01010111#8, .ld_D_A),
      (0b01011000#8, .ld_E_B), (0b01011001#8, .ld_E_C), (0b01011010#8, .ld_E_D), (0b01011011#8, .ld_E_E),
      (0b01011100#8, .ld_E_H), (0b01011101#8, .ld_E_L), (0b01011110#8, .ld_E_mHL), (0b01011111#8, .ld_E_A)] = true := by decide

theorem test_decode_base_6x :
    decodesBase [
      (0b01100000#8, .ld_H_B), (0b01100001#8, .ld_H_C), (0b01100010#8, .ld_H_D), (0b01100011#8, .ld_H_E),
      (0b01100100#8, .ld_H_H), (0b01100101#8, .ld_H_L), (0b01100110#8, .ld_H_mHL), (0b01100111#8, .ld_H_A),
      (0b01101000#8, .ld_L_B), (0b01101001#8, .ld_L_C), (0b01101010#8, .ld_L_D), (0b01101011#8, .ld_L_E),
      (0b01101100#8, .ld_L_H), (0b01101101#8, .ld_L_L), (0b01101110#8, .ld_L_mHL), (0b01101111#8, .ld_L_A)] = true := by decide

theorem test_decode_base_7x :
    decodesBase [
      (0b01110000#8, .ld_mHL_B), (0b01110001#8, .ld_mHL_C), (0b01110010#8, .ld_mHL_D), (0b01110011#8, .ld_mHL_E),
      (0b01110100#8, .ld_mHL_H), (0b01110101#8, .ld_mHL_L), (0b01110110#8, .halt), (0b01110111#8, .ld_mHL_A),
      (0b01111000#8, .ld_A_B), (0b01111001#8, .ld_A_C), (0b01111010#8, .ld_A_D), (0b01111011#8, .ld_A_E),
      (0b01111100#8, .ld_A_H), (0b01111101#8, .ld_A_L), (0b01111110#8, .ld_A_mHL), (0b01111111#8, .ld_A_A)] = true := by decide

theorem test_decode_base_8x :
    decodesBase [
      (0b10000000#8, .add_A_B), (0b10000001#8, .add_A_C), (0b10000010#8, .add_A_D), (0b10000011#8, .add_A_E),
      (0b10000100#8, .add_A_H), (0b10000101#8, .add_A_L), (0b10000110#8, .add_A_mHL), (0b10000111#8, .add_A_A),
      (0b10001000#8, .adc_A_B), (0b10001001#8, .adc_A_C), (0b10001010#8, .adc_A_D), (0b10001011#8, .adc_A_E),
      (0b10001100#8, .adc_A_H), (0b10001101#8, .adc_A_L), (0b10001110#8, .adc_A_mHL), (0b10001111#8, .adc_A_A)] = true := by decide

theorem test_decode_base_9x :
    decodesBase [
      (0b10010000#8, .sub_B), (0b10010001#8, .sub_C), (0b10010010#8, .sub_D), (0b10010011#8, .sub_E),
      (0b10010100#8, .sub_H), (0b10010101#8, .sub_L), (0b10010110#8, .sub_mHL), (0b10010111#8, .sub_A),
      (0b10011000#8, .sbc_A_B), (0b10011001#8, .sbc_A_C), (0b10011010#8, .sbc_A_D), (0b10011011#8, .sbc_A_E),
      (0b10011100#8, .sbc_A_H), (0b10011101#8, .sbc_A_L), (0b10011110#8, .sbc_A_mHL), (0b10011111#8, .sbc_A_A)] = true := by decide

theorem test_decode_base_Ax :
    decodesBase [
      (0b10100000#8, .and_B), (0b10100001#8, .and_C), (0b10100010#8, .and_D), (0b10100011#8, .and_E),
      (0b10100100#8, .and_H), (0b10100101#8, .and_L), (0b10100110#8, .and_mHL), (0b10100111#8, .and_A),
      (0b10101000#8, .xor_B), (0b10101001#8, .xor_C), (0b10101010#8, .xor_D), (0b10101011#8, .xor_E),
      (0b10101100#8, .xor_H), (0b10101101#8, .xor_L), (0b10101110#8, .xor_mHL), (0b10101111#8, .xor_A)] = true := by decide

theorem test_decode_base_Bx :
    decodesBase [
      (0b10110000#8, .or_B), (0b10110001#8, .or_C), (0b10110010#8, .or_D), (0b10110011#8, .or_E),
      (0b10110100#8, .or_H), (0b10110101#8, .or_L), (0b10110110#8, .or_mHL), (0b10110111#8, .or_A),
      (0b10111000#8, .cp_B), (0b10111001#8, .cp_C), (0b10111010#8, .cp_D), (0b10111011#8, .cp_E),
      (0b10111100#8, .cp_H), (0b10111101#8, .cp_L), (0b10111110#8, .cp_mHL), (0b10111111#8, .cp_A)] = true := by decide

theorem test_decode_base_Cx :
    decodesBase [
      (0b11000000#8, .ret_NZ), (0b11000001#8, .pop_BC), (0b11000010#8, .jp_NZ_nn), (0b11000011#8, .jp_nn),
      (0b11000100#8, .call_NZ_nn), (0b11000101#8, .push_BC), (0b11000110#8, .add_A_n), (0b11000111#8, .rst_00),
      (0b11001000#8, .ret_Z), (0b11001001#8, .ret), (0b11001010#8, .jp_Z_nn), (0b11001011#8, .prefixCB),
      (0b11001100#8, .call_Z_nn), (0b11001101#8, .call_nn), (0b11001110#8, .adc_A_n), (0b11001111#8, .rst_08)] = true := by decide

theorem test_decode_base_Dx :
    decodesBase [
      (0b11010000#8, .ret_NC), (0b11010001#8, .pop_DE), (0b11010010#8, .jp_NC_nn), (0b11010100#8, .call_NC_nn),
      (0b11010101#8, .push_DE), (0b11010110#8, .sub_n), (0b11010111#8, .rst_10), (0b11011000#8, .ret_C),
      (0b11011001#8, .reti), (0b11011010#8, .jp_C_nn), (0b11011100#8, .call_C_nn), (0b11011110#8, .sbc_A_n),
      (0b11011111#8, .rst_18)] = true := by decide

theorem test_decode_base_Ex :
    decodesBase [
      (0b11100000#8, .ldh_mn_A), (0b11100001#8, .pop_HL), (0b11100010#8, .ld_mC_A), (0b11100101#8, .push_HL),
      (0b11100110#8, .and_n), (0b11100111#8, .rst_20), (0b11101000#8, .add_SP_e), (0b11101001#8, .jp_HL),
      (0b11101010#8, .ld_mnn_A), (0b11101110#8, .xor_n), (0b11101111#8, .rst_28)] = true := by decide

theorem test_decode_base_Fx :
    decodesBase [
      (0b11110000#8, .ldh_A_mn), (0b11110001#8, .pop_AF), (0b11110010#8, .ld_A_mC), (0b11110011#8, .di),
      (0b11110101#8, .push_AF), (0b11110110#8, .or_n), (0b11110111#8, .rst_30), (0b11111000#8, .ld_HL_SPe),
      (0b11111001#8, .ld_SP_HL), (0b11111010#8, .ld_A_mnn), (0b11111011#8, .ei), (0b11111110#8, .cp_n),
      (0b11111111#8, .rst_38)] = true := by decide

theorem test_decode_prefixed_0x :
    decodesPrefixed [
      (0b00000000#8, .rlc_B), (0b00000001#8, .rlc_C), (0b00000010#8, .rlc_D), (0b00000011#8, .rlc_E),
      (0b00000100#8, .rlc_H), (0b00000101#8, .rlc_L), (0b00000110#8, .rlc_mHL), (0b00000111#8, .rlc_A),
      (0b00001000#8, .rrc_B), (0b00001001#8, .rrc_C), (0b00001010#8, .rrc_D), (0b00001011#8, .rrc_E),
      (0b00001100#8, .rrc_H), (0b00001101#8, .rrc_L), (0b00001110#8, .rrc_mHL), (0b00001111#8, .rrc_A)] = true := by decide

theorem test_decode_prefixed_1x :
    decodesPrefixed [
      (0b00010000#8, .rl_B), (0b00010001#8, .rl_C), (0b00010010#8, .rl_D), (0b00010011#8, .rl_E),
      (0b00010100#8, .rl_H), (0b00010101#8, .rl_L), (0b00010110#8, .rl_mHL), (0b00010111#8, .rl_A),
      (0b00011000#8, .rr_B), (0b00011001#8, .rr_C), (0b00011010#8, .rr_D), (0b00011011#8, .rr_E),
      (0b00011100#8, .rr_H), (0b00011101#8, .rr_L), (0b00011110#8, .rr_mHL), (0b00011111#8, .rr_A)] = true := by decide

theorem test_decode_prefixed_2x :
    decodesPrefixed [
      (0b00100000#8, .sla_B), (0b00100001#8, .sla_C), (0b00100010#8, .sla_D), (0b00100011#8, .sla_E),
      (0b00100100#8, .sla_H), (0b00100101#8, .sla_L), (0b00100110#8, .sla_mHL), (0b00100111#8, .sla_A),
      (0b00101000#8, .sra_B), (0b00101001#8, .sra_C), (0b00101010#8, .sra_D), (0b00101011#8, .sra_E),
      (0b00101100#8, .sra_H), (0b00101101#8, .sra_L), (0b00101110#8, .sra_mHL), (0b00101111#8, .sra_A)] = true := by decide

theorem test_decode_prefixed_3x :
    decodesPrefixed [
      (0b00110000#8, .swap_B), (0b00110001#8, .swap_C), (0b00110010#8, .swap_D), (0b00110011#8, .swap_E),
      (0b00110100#8, .swap_H), (0b00110101#8, .swap_L), (0b00110110#8, .swap_mHL), (0b00110111#8, .swap_A),
      (0b00111000#8, .srl_B), (0b00111001#8, .srl_C), (0b00111010#8, .srl_D), (0b00111011#8, .srl_E),
      (0b00111100#8, .srl_H), (0b00111101#8, .srl_L), (0b00111110#8, .srl_mHL), (0b00111111#8, .srl_A)] = true := by decide

theorem test_decode_prefixed_4x :
    decodesPrefixed [
      (0b01000000#8, .bit_0_B), (0b01000001#8, .bit_0_C), (0b01000010#8, .bit_0_D), (0b01000011#8, .bit_0_E),
      (0b01000100#8, .bit_0_H), (0b01000101#8, .bit_0_L), (0b01000110#8, .bit_0_mHL), (0b01000111#8, .bit_0_A),
      (0b01001000#8, .bit_1_B), (0b01001001#8, .bit_1_C), (0b01001010#8, .bit_1_D), (0b01001011#8, .bit_1_E),
      (0b01001100#8, .bit_1_H), (0b01001101#8, .bit_1_L), (0b01001110#8, .bit_1_mHL), (0b01001111#8, .bit_1_A)] = true := by decide

theorem test_decode_prefixed_5x :
    decodesPrefixed [
      (0b01010000#8, .bit_2_B), (0b01010001#8, .bit_2_C), (0b01010010#8, .bit_2_D), (0b01010011#8, .bit_2_E),
      (0b01010100#8, .bit_2_H), (0b01010101#8, .bit_2_L), (0b01010110#8, .bit_2_mHL), (0b01010111#8, .bit_2_A),
      (0b01011000#8, .bit_3_B), (0b01011001#8, .bit_3_C), (0b01011010#8, .bit_3_D), (0b01011011#8, .bit_3_E),
      (0b01011100#8, .bit_3_H), (0b01011101#8, .bit_3_L), (0b01011110#8, .bit_3_mHL), (0b01011111#8, .bit_3_A)] = true := by decide

theorem test_decode_prefixed_6x :
    decodesPrefixed [
      (0b01100000#8, .bit_4_B), (0b01100001#8, .bit_4_C), (0b01100010#8, .bit_4_D), (0b01100011#8, .bit_4_E),
      (0b01100100#8, .bit_4_H), (0b01100101#8, .bit_4_L), (0b01100110#8, .bit_4_mHL), (0b01100111#8, .bit_4_A),
      (0b01101000#8, .bit_5_B), (0b01101001#8, .bit_5_C), (0b01101010#8, .bit_5_D), (0b01101011#8, .bit_5_E),
      (0b01101100#8, .bit_5_H), (0b01101101#8, .bit_5_L), (0b01101110#8, .bit_5_mHL), (0b01101111#8, .bit_5_A)] = true := by decide

theorem test_decode_prefixed_7x :
    decodesPrefixed [
      (0b01110000#8, .bit_6_B), (0b01110001#8, .bit_6_C), (0b01110010#8, .bit_6_D), (0b01110011#8, .bit_6_E),
      (0b01110100#8, .bit_6_H), (0b01110101#8, .bit_6_L), (0b01110110#8, .bit_6_mHL), (0b01110111#8, .bit_6_A),
      (0b01111000#8, .bit_7_B), (0b01111001#8, .bit_7_C), (0b01111010#8, .bit_7_D), (0b01111011#8, .bit_7_E),
      (0b01111100#8, .bit_7_H), (0b01111101#8, .bit_7_L), (0b01111110#8, .bit_7_mHL), (0b01111111#8, .bit_7_A)] = true := by decide

theorem test_decode_prefixed_8x :
    decodesPrefixed [
      (0b10000000#8, .res_0_B), (0b10000001#8, .res_0_C), (0b10000010#8, .res_0_D), (0b10000011#8, .res_0_E),
      (0b10000100#8, .res_0_H), (0b10000101#8, .res_0_L), (0b10000110#8, .res_0_mHL), (0b10000111#8, .res_0_A),
      (0b10001000#8, .res_1_B), (0b10001001#8, .res_1_C), (0b10001010#8, .res_1_D), (0b10001011#8, .res_1_E),
      (0b10001100#8, .res_1_H), (0b10001101#8, .res_1_L), (0b10001110#8, .res_1_mHL), (0b10001111#8, .res_1_A)] = true := by decide

theorem test_decode_prefixed_9x :
    decodesPrefixed [
      (0b10010000#8, .res_2_B), (0b10010001#8, .res_2_C), (0b10010010#8, .res_2_D), (0b10010011#8, .res_2_E),
      (0b10010100#8, .res_2_H), (0b10010101#8, .res_2_L), (0b10010110#8, .res_2_mHL), (0b10010111#8, .res_2_A),
      (0b10011000#8, .res_3_B), (0b10011001#8, .res_3_C), (0b10011010#8, .res_3_D), (0b10011011#8, .res_3_E),
      (0b10011100#8, .res_3_H), (0b10011101#8, .res_3_L), (0b10011110#8, .res_3_mHL), (0b10011111#8, .res_3_A)] = true := by decide

theorem test_decode_prefixed_Ax :
    decodesPrefixed [
      (0b10100000#8, .res_4_B), (0b10100001#8, .res_4_C), (0b10100010#8, .res_4_D), (0b10100011#8, .res_4_E),
      (0b10100100#8, .res_4_H), (0b10100101#8, .res_4_L), (0b10100110#8, .res_4_mHL), (0b10100111#8, .res_4_A),
      (0b10101000#8, .res_5_B), (0b10101001#8, .res_5_C), (0b10101010#8, .res_5_D), (0b10101011#8, .res_5_E),
      (0b10101100#8, .res_5_H), (0b10101101#8, .res_5_L), (0b10101110#8, .res_5_mHL), (0b10101111#8, .res_5_A)] = true := by decide

theorem test_decode_prefixed_Bx :
    decodesPrefixed [
      (0b10110000#8, .res_6_B), (0b10110001#8, .res_6_C), (0b10110010#8, .res_6_D), (0b10110011#8, .res_6_E),
      (0b10110100#8, .res_6_H), (0b10110101#8, .res_6_L), (0b10110110#8, .res_6_mHL), (0b10110111#8, .res_6_A),
      (0b10111000#8, .res_7_B), (0b10111001#8, .res_7_C), (0b10111010#8, .res_7_D), (0b10111011#8, .res_7_E),
      (0b10111100#8, .res_7_H), (0b10111101#8, .res_7_L), (0b10111110#8, .res_7_mHL), (0b10111111#8, .res_7_A)] = true := by decide

theorem test_decode_prefixed_Cx :
    decodesPrefixed [
      (0b11000000#8, .set_0_B), (0b11000001#8, .set_0_C), (0b11000010#8, .set_0_D), (0b11000011#8, .set_0_E),
      (0b11000100#8, .set_0_H), (0b11000101#8, .set_0_L), (0b11000110#8, .set_0_mHL), (0b11000111#8, .set_0_A),
      (0b11001000#8, .set_1_B), (0b11001001#8, .set_1_C), (0b11001010#8, .set_1_D), (0b11001011#8, .set_1_E),
      (0b11001100#8, .set_1_H), (0b11001101#8, .set_1_L), (0b11001110#8, .set_1_mHL), (0b11001111#8, .set_1_A)] = true := by decide

theorem test_decode_prefixed_Dx :
    decodesPrefixed [
      (0b11010000#8, .set_2_B), (0b11010001#8, .set_2_C), (0b11010010#8, .set_2_D), (0b11010011#8, .set_2_E),
      (0b11010100#8, .set_2_H), (0b11010101#8, .set_2_L), (0b11010110#8, .set_2_mHL), (0b11010111#8, .set_2_A),
      (0b11011000#8, .set_3_B), (0b11011001#8, .set_3_C), (0b11011010#8, .set_3_D), (0b11011011#8, .set_3_E),
      (0b11011100#8, .set_3_H), (0b11011101#8, .set_3_L), (0b11011110#8, .set_3_mHL), (0b11011111#8, .set_3_A)] = true := by decide

theorem test_decode_prefixed_Ex :
    decodesPrefixed [
      (0b11100000#8, .set_4_B), (0b11100001#8, .set_4_C), (0b11100010#8, .set_4_D), (0b11100011#8, .set_4_E),
      (0b11100100#8, .set_4_H), (0b11100101#8, .set_4_L), (0b11100110#8, .set_4_mHL), (0b11100111#8, .set_4_A),
      (0b11101000#8, .set_5_B), (0b11101001#8, .set_5_C), (0b11101010#8, .set_5_D), (0b11101011#8, .set_5_E),
      (0b11101100#8, .set_5_H), (0b11101101#8, .set_5_L), (0b11101110#8, .set_5_mHL), (0b11101111#8, .set_5_A)] = true := by decide

theorem test_decode_prefixed_Fx :
    decodesPrefixed [
      (0b11110000#8, .set_6_B), (0b11110001#8, .set_6_C), (0b11110010#8, .set_6_D), (0b11110011#8, .set_6_E),
      (0b11110100#8, .set_6_H), (0b11110101#8, .set_6_L), (0b11110110#8, .set_6_mHL), (0b11110111#8, .set_6_A),
      (0b11111000#8, .set_7_B), (0b11111001#8, .set_7_C), (0b11111010#8, .set_7_D), (0b11111011#8, .set_7_E),
      (0b11111100#8, .set_7_H), (0b11111101#8, .set_7_L), (0b11111110#8, .set_7_mHL), (0b11111111#8, .set_7_A)] = true := by decide

theorem test_decode_ignores_immediates : decodeBytes [0b11001101#8, 0x34, 0x12] = .ok .call_nn := by decide

theorem test_tableWord_prefixed : decodeTableWord 16 0b0011011111001011 = some .swap_A := by decide

/-! ### One step each, on the worked examples of the rules -/

/-- R101. -/
theorem test_ld_A_B :
    after (fresh .base 0x78 { blank with b := 0x5A })
      (fun t => t.a == 0x5A && t.b == 0x5A && t.pc == 0xC002) = true := by decide

/-- R102, c1. -/
theorem test_ld_B_n_reads :
    after (fresh .base 0x06 (withByte blank 0xC001 0x42))
      (fun t => t.pc == 0xC002 && (t.record.map Record.n) == some 0x42 && t.b == 0) = true := by decide

/-- R102, c2. -/
theorem test_ld_B_n_writes :
    after (midway .base 0x06 1 0x42 blank)
      (fun t => t.b == 0x42 && t.f == 0) = true := by decide

/-- V41-5: the address is that of c1. -/
theorem test_ld_H_mHL :
    after (fresh .base 0x66 (withByte { blank with h := 0xC2, l := 0xF0 } 0xC2F0 0x11))
      (fun t => (t.record.map Record.t) == some 0x11 && t.h == 0xC2) = true := by decide

/-- V41-6. -/
theorem test_ld_mHL_H :
    after (fresh .base 0x74 { blank with h := 0xC2, l := 0x10 })
      (fun t => byteAt t 0xC210 == 0xC2) = true := by decide

/-- R105, c2. -/
theorem test_ld_mHL_n :
    after (midway .base 0x36 1 0x5A { blank with h := 0xC0 })
      (fun t => byteAt t 0xC000 == 0x5A) = true := by decide

/-- R106. -/
theorem test_ld_A_mBC :
    after (fresh .base 0x0A (withByte { blank with b := 0xC0, c := 0x10 } 0xC010 0x12))
      (fun t => (t.record.map Record.t) == some 0x12) = true := by decide

/-- R107. -/
theorem test_ld_A_mDE :
    after (fresh .base 0x1A (withByte { blank with d := 0xC0, e := 0x20 } 0xC020 0xA5))
      (fun t => (t.record.map Record.t) == some 0xA5) = true := by decide

/-- R108. -/
theorem test_ld_mBC_A :
    after (fresh .base 0x02 { blank with a := 0x77, b := 0xC0, c := 0x30 })
      (fun t => byteAt t 0xC030 == 0x77) = true := by decide

/-- R109. -/
theorem test_ld_mDE_A :
    after (fresh .base 0x12 { blank with a := 0x01, d := 0xC0, e := 0x40 })
      (fun t => byteAt t 0xC040 == 0x01) = true := by decide

/-- R110, c3. -/
theorem test_ld_A_mnn :
    after (midway .base 0xFA 2 0xC5 (withByte blank 0xC5C5 0x3E))
      (fun t => (t.record.map Record.t) == some 0x3E) = true := by decide

/-- V41-14, c3. -/
theorem test_ld_mnn_A :
    after (midway .base 0xEA 2 0xFF { blank with a := 0x42 })
      (fun t => byteAt t 0xFFFF == 0x42) = true := by decide

/-- R112, c2. -/
theorem test_ldh_A_mn :
    after (midway .base 0xF0 1 0x80 (withByte blank 0xFF80 0x07))
      (fun t => (t.record.map Record.t) == some 0x07) = true := by decide

/-- V41-16, c2. -/
theorem test_ldh_mn_A :
    after (midway .base 0xE0 1 0xFF { blank with a := 0x1F })
      (fun t => byteAt t 0xFFFF == 0x1F) = true := by decide

/-- R114. -/
theorem test_ld_A_mC :
    after (fresh .base 0xF2 (withByte { blank with b := 0x12, c := 0x90 } 0xFF90 0x44))
      (fun t => (t.record.map Record.t) == some 0x44) = true := by decide

/-- R115. -/
theorem test_ld_mC_A :
    after (fresh .base 0xE2 { blank with a := 0x66, c := 0x91 })
      (fun t => byteAt t 0xFF91 == 0x66) = true := by decide

/-- V41-19. -/
theorem test_ld_A_mHLi :
    after (fresh .base 0x2A (withByte { blank with h := 0xFF, l := 0xFF } 0xFFFF 0x5A))
      (fun t => (t.record.map Record.t) == some 0x5A && t.h == 0 && t.l == 0) = true := by decide

/-- R117. -/
theorem test_ld_A_mHLd :
    after (fresh .base 0x3A (withByte { blank with h := 0xC0 } 0xC000 0x22))
      (fun t => (t.record.map Record.t) == some 0x22 && t.h == 0xBF && t.l == 0xFF) = true := by decide

/-- R118. -/
theorem test_ld_mHLi_A :
    after (fresh .base 0x22 { blank with a := 0x33, h := 0xC0, l := 0xFF })
      (fun t => byteAt t 0xC0FF == 0x33 && t.h == 0xC1 && t.l == 0) = true := by decide

/-- V41-22. -/
theorem test_ld_mHLd_A :
    after (fresh .base 0x32 { blank with a := 0x8D })
      (fun t => byteAt t 0x0000 == 0x8D && t.h == 0xFF && t.l == 0xFF) = true := by decide

/-- R130, c3. -/
theorem test_ld_BC_nn :
    after ({ blank with record := some { recordOf .base 0x01 2 with lo := 0x34, hi := 0x12 } })
      (fun t => t.b == 0x12 && t.c == 0x34) = true := by decide

/-- V42-4, c4: the second address wraps. -/
theorem test_ld_mnn_SP_high :
    after (midway .base 0x08 3 0xFF { blank with sp := 0x1234 })
      (fun t => byteAt t 0x0000 == 0x12) = true := by decide

/-- V42-4, c3. -/
theorem test_ld_mnn_SP_low :
    after (midway .base 0x08 2 0xFF { blank with sp := 0x1234 })
      (fun t => byteAt t 0xFFFF == 0x34) = true := by decide

/-- R132, c2. -/
theorem test_ld_SP_HL :
    after (midway .base 0xF9 1 0x00 { blank with h := 0xDF, l := 0xF0 })
      (fun t => t.sp == 0xDFF0) = true := by decide

/-- R133, c2. -/
theorem test_push_BC_high :
    after (midway .base 0xC5 1 0x00 { blank with b := 0xBE, c := 0xEF })
      (fun t => byteAt t 0xCFFF == 0xBE && t.sp == 0xCFFF) = true := by decide

/-- R133, c3. -/
theorem test_push_BC_low :
    after (midway .base 0xC5 2 0x00 { blank with b := 0xBE, c := 0xEF, sp := 0xCFFF })
      (fun t => byteAt t 0xCFFE == 0xEF && t.sp == 0xCFFE) = true := by decide

/-- R134, c3: the low nibble is dropped. -/
theorem test_pop_AF :
    after ({ blank with record := some { recordOf .base 0xF1 2 with lo := 0x5F, hi := 0x12 } })
      (fun t => t.a == 0x12 && t.f == 0x50) = true := by decide

/-- V42-11, c1. -/
theorem test_pop_wraps :
    after (fresh .base 0xC1 (withByte { blank with sp := 0xFFFF } 0xFFFF 0x34))
      (fun t => t.sp == 0 && (t.record.map Record.lo) == some 0x34) = true := by decide

/-- L1-7. -/
theorem test_add_A_B :
    after (fresh .base 0x80 { blank with a := 0xF1, b := 0x0F, f := 0x00 })
      (fun t => t.a == 0x00 && t.f == 0xB0) = true := by decide

/-- R146. -/
theorem test_adc_A_B :
    after (fresh .base 0x88 { blank with a := 0xE1, b := 0x0F, f := 0x10 })
      (fun t => t.a == 0xF1 && t.f == 0x20) = true := by decide

/-- R149. -/
theorem test_sub_B :
    after (fresh .base 0x90 { blank with a := 0x3E, b := 0x3E, f := 0x00 })
      (fun t => t.a == 0x00 && t.f == 0xC0) = true := by decide

/-- R152. -/
theorem test_sbc_A_B :
    after (fresh .base 0x98 { blank with a := 0x3B, b := 0x2A, f := 0x10 })
      (fun t => t.a == 0x10 && t.f == 0x40) = true := by decide

/-- R155. -/
theorem test_and_B :
    after (fresh .base 0xA0 { blank with a := 0x5A, b := 0x3F, f := 0x00 })
      (fun t => t.a == 0x1A && t.f == 0x20) = true := by decide

/-- R158. -/
theorem test_xor_B :
    after (fresh .base 0xA8 { blank with a := 0xFF, b := 0x0F, f := 0x00 })
      (fun t => t.a == 0xF0 && t.f == 0x00) = true := by decide

/-- R161. -/
theorem test_or_B :
    after (fresh .base 0xB0 { blank with a := 0x5A, b := 0x0F, f := 0x00 })
      (fun t => t.a == 0x5F && t.f == 0x00) = true := by decide

/-- R164. -/
theorem test_cp_B :
    after (fresh .base 0xB8 { blank with a := 0x3C, b := 0x40, f := 0x00 })
      (fun t => t.a == 0x3C && t.f == 0x50) = true := by decide

/-- R144, c2. -/
theorem test_add_A_mHL :
    after (midway .base 0x86 1 0xC6 { blank with a := 0x3A })
      (fun t => t.a == 0 && t.f == 0xB0) = true := by decide

/-- R145, c2. -/
theorem test_add_A_n :
    after (midway .base 0xC6 1 0xC6 { blank with a := 0x3A })
      (fun t => t.a == 0 && t.f == 0xB0) = true := by decide

/-- R166, c2. -/
theorem test_cp_n :
    after (midway .base 0xFE 1 0x40 { blank with a := 0x3C })
      (fun t => t.a == 0x3C && t.f == 0x50) = true := by decide

/-- L1-4. -/
theorem test_inc_A :
    after (fresh .base 0x3C { blank with a := 0xFF, f := 0x10 })
      (fun t => t.a == 0 && t.f == 0xB0) = true := by decide

/-- L1-5. -/
theorem test_dec_A :
    after (fresh .base 0x3D { blank with f := 0x10 })
      (fun t => t.a == 0xFF && t.f == 0x70) = true := by decide

/-- R168, c2. -/
theorem test_inc_mHL :
    after (midway .base 0x34 1 0x0F { blank with h := 0xC1, f := 0x10 })
      (fun t => byteAt t 0xC100 == 0x10 && t.f == 0x30) = true := by decide

/-- R170, c2. -/
theorem test_dec_mHL :
    after (midway .base 0x35 1 0x01 { blank with h := 0xC1, mem := [(0xC100, 0x01)] })
      (fun t => byteAt t 0xC100 == 0x00 && t.mem == [] && t.f == 0xC0) = true := by decide

/-- R171. -/
theorem test_daa :
    after (fresh .base 0x27 { blank with a := 0x7D })
      (fun t => t.a == 0x83 && t.f == 0) = true := by decide

/-- R172. -/
theorem test_cpl :
    after (fresh .base 0x2F { blank with a := 0x35, f := 0x90 })
      (fun t => t.a == 0xCA && t.f == 0xF0) = true := by decide

/-- R173. -/
theorem test_scf :
    after (fresh .base 0x37 { blank with f := 0xE0 })
      (fun t => t.f == 0x90) = true := by decide

/-- R174. -/
theorem test_ccf :
    after (fresh .base 0x3F { blank with f := 0x70 })
      (fun t => t.f == 0) = true := by decide

/-- R175. -/
theorem test_rlca :
    after (fresh .base 0x07 { blank with a := 0x85, f := 0x80 })
      (fun t => t.a == 0x0B && t.f == 0x10) = true := by decide

/-- R176. -/
theorem test_rrca :
    after (fresh .base 0x0F { blank with a := 0x01 })
      (fun t => t.a == 0x80 && t.f == 0x10) = true := by decide

/-- R177. -/
theorem test_rla :
    after (fresh .base 0x17 { blank with a := 0x80 })
      (fun t => t.a == 0 && t.f == 0x10) = true := by decide

/-- R178. -/
theorem test_rra :
    after (fresh .base 0x1F { blank with a := 0x01, f := 0x10 })
      (fun t => t.a == 0x80 && t.f == 0x10) = true := by decide

/-- R190, c2. -/
theorem test_inc_BC :
    after (midway .base 0x03 1 0x00 { blank with b := 0xFF, c := 0xFF, f := 0xF0 })
      (fun t => t.b == 0 && t.c == 0 && t.f == 0xF0) = true := by decide

/-- R191, c2. -/
theorem test_dec_SP :
    after (midway .base 0x3B 1 0x00 { blank with sp := 0 })
      (fun t => t.sp == 0xFFFF) = true := by decide

/-- R192, c2. -/
theorem test_add_HL_BC :
    after (midway .base 0x09 1 0x00 { blank with h := 0x0F, l := 0xFF, c := 0x01, f := 0x80 })
      (fun t => t.h == 0x10 && t.l == 0 && t.f == 0xA0) = true := by decide

/-- R194, c4. -/
theorem test_add_SP_e :
    after (midway .base 0xE8 3 0x08 { blank with sp := 0xFFF8, f := 0xC0 })
      (fun t => t.sp == 0 && t.f == 0x30) = true := by decide

/-- P4: the displacement is signed, c3. -/
theorem test_ld_HL_SPe :
    after (midway .base 0xF8 2 0xFF { blank with sp := 0, f := 0xF0 })
      (fun t => t.h == 0xFF && t.l == 0xFF && t.sp == 0 && t.f == 0) = true := by decide

/-- R201, c4: the fetch is from the target. -/
theorem test_jp_nn :
    after ({ blank with record := some { recordOf .base 0xC3 3 with lo := 0x00, hi := 0xD0 } })
      (fun t => t.pc == 0xD001 && t.bus == [.read 0xD000 0]) = true := by decide

/-- R202, c1: three cycles in all. -/
theorem test_jp_NZ_nn_notTaken :
    after (fresh .base 0xC2 { blank with f := 0x80 })
      (fun t => (t.record.map Record.remaining) == some 2) = true := by decide

/-- R202, c1. -/
theorem test_jp_NZ_nn_taken :
    after (fresh .base 0xC2 blank)
      (fun t => (t.record.map Record.remaining) == some 3) = true := by decide

/-- R203. -/
theorem test_jp_HL :
    after (fresh .base 0xE9 { blank with h := 0xD1, l := 0x23 })
      (fun t => t.pc == 0xD124) = true := by decide

/-- R204, c3. -/
theorem test_jr_e :
    after (midway .base 0x18 2 0x05 { blank with pc := 0xC002 })
      (fun t => t.pc == 0xC008) = true := by decide

/-- R205, c3. -/
theorem test_jr_NZ_e_back :
    after (midway .base 0x20 2 0xFB { blank with pc := 0xC002 })
      (fun t => t.pc == 0xBFFE) = true := by decide

/-- R205, c1. -/
theorem test_jr_NZ_e_notTaken :
    after (fresh .base 0x20 { blank with f := 0x80 })
      (fun t => (t.record.map Record.remaining) == some 1) = true := by decide

/-- L1-8, c4. -/
theorem test_call_high :
    after (midway .base 0xCD 3 0x00 { blank with pc := 0x1124, sp := 0x3333 })
      (fun t => byteAt t 0x3332 == 0x11 && t.sp == 0x3332) = true := by decide

/-- L1-8, c5. -/
theorem test_call_low :
    after (midway .base 0xCD 4 0x00 { blank with pc := 0x1124, sp := 0x3332 })
      (fun t => byteAt t 0x3331 == 0x24 && t.sp == 0x3331) = true := by decide

/-- R207, c1. -/
theorem test_call_C_nn_notTaken :
    after (fresh .base 0xDC blank)
      (fun t => (t.record.map Record.remaining) == some 2) = true := by decide

/-- R207, c1. -/
theorem test_call_C_nn_taken :
    after (fresh .base 0xDC { blank with f := 0x10 })
      (fun t => (t.record.map Record.remaining) == some 5) = true := by decide

/-- R208, c4. -/
theorem test_ret :
    after ({ blank with record := some { recordOf .base 0xC9 3 with lo := 0x03, hi := 0xC0 } })
      (fun t => t.pc == 0xC004) = true := by decide

/-- R209, c1: no access. -/
theorem test_ret_Z_notTaken :
    after (fresh .base 0xC8 blank)
      (fun t => (t.record.map Record.remaining) == some 1 && t.bus == []) = true := by decide

/-- R209, c1. -/
theorem test_ret_Z_taken :
    after (fresh .base 0xC8 { blank with f := 0x80 })
      (fun t => (t.record.map Record.remaining) == some 4) = true := by decide

/-- R210, c4. -/
theorem test_reti :
    after ({ blank with record := some { recordOf .base 0xD9 3 with lo := 0x03, hi := 0xC0 } })
      (fun t => t.pc == 0xC004 && t.ime) = true := by decide

/-- R211, c4. -/
theorem test_rst_28 :
    after (midway .base 0xEF 3 0x00 blank)
      (fun t => t.pc == 0x0029) = true := by decide

/-- R220. -/
theorem test_nop :
    after (fresh .base 0x00 blank)
      (fun t => t.pc == 0xC002 && t.f == 0 && t.sp == 0xD000) = true := by decide

/-- R221. -/
theorem test_halt :
    after (fresh .base 0x76 blank)
      (fun t => t.haltMode && t.pc == 0xC002) = true := by decide

/-- R222: no second byte is consumed. -/
theorem test_stop :
    after (fresh .base 0x10 blank)
      (fun t => t.stopMode && t.pc == 0xC002) = true := by decide

/-- P5, call 4: DI clears the IME that the transfer set. -/
theorem test_di_after_ei :
    after (fresh .base 0xF3 { blank with ime := true, imeScheduled := true })
      (fun t => !t.ime && !t.imeScheduled) = true := by decide

/-- R224. -/
theorem test_ei :
    after (fresh .base 0xFB blank)
      (fun t => !t.ime && t.imeScheduled) = true := by decide

/-- R89: the next call sets IME. -/
theorem test_ei_transfer :
    after (fresh .base 0x00 { blank with imeScheduled := true })
      (fun t => t.ime && !t.imeScheduled) = true := by decide

/-- R225: the byte after 0xCB is decoded in the prefixed table. -/
theorem test_prefix :
    after (fresh .base 0xCB (withByte blank 0xC001 0x37))
      (fun t => !t.prefixPending && t.pc == 0xC002 && (t.record.map Record.instr) == some .swap_A) = true := by decide

/-- R231. -/
theorem test_rlc_B :
    after (fresh .prefixed 0x00 { blank with b := 0x85, f := 0x00 })
      (fun t => t.b == 0x0B && t.f == 0x10) = true := by decide

/-- R233. -/
theorem test_rrc_B :
    after (fresh .prefixed 0x08 { blank with b := 0x01, f := 0x00 })
      (fun t => t.b == 0x80 && t.f == 0x10) = true := by decide

/-- R235. -/
theorem test_rl_B :
    after (fresh .prefixed 0x10 { blank with b := 0x80, f := 0x00 })
      (fun t => t.b == 0x00 && t.f == 0x90) = true := by decide

/-- R237. -/
theorem test_rr_B :
    after (fresh .prefixed 0x18 { blank with b := 0x01, f := 0x00 })
      (fun t => t.b == 0x00 && t.f == 0x90) = true := by decide

/-- R239. -/
theorem test_sla_B :
    after (fresh .prefixed 0x20 { blank with b := 0xC1, f := 0x00 })
      (fun t => t.b == 0x82 && t.f == 0x10) = true := by decide

/-- R241. -/
theorem test_sra_B :
    after (fresh .prefixed 0x28 { blank with b := 0x81, f := 0x00 })
      (fun t => t.b == 0xC0 && t.f == 0x10) = true := by decide

/-- R243. -/
theorem test_swap_B :
    after (fresh .prefixed 0x30 { blank with b := 0xF1, f := 0x10 })
      (fun t => t.b == 0x1F && t.f == 0x00) = true := by decide

/-- R245. -/
theorem test_srl_B :
    after (fresh .prefixed 0x38 { blank with b := 0x01, f := 0x00 })
      (fun t => t.b == 0x00 && t.f == 0x90) = true := by decide

/-- R232, c2. -/
theorem test_rlc_mHL :
    after (midway .prefixed 0x06 1 0x85 { blank with h := 0xC1 })
      (fun t => byteAt t 0xC100 == 0x0B && t.f == 0x10) = true := by decide

/-- R247. -/
theorem test_bit_7_B :
    after (fresh .prefixed 0x78 { blank with b := 0x7F, f := 0x10 })
      (fun t => t.b == 0x7F && t.f == 0xB0) = true := by decide

/-- R248, c2. -/
theorem test_bit_0_mHL :
    after (midway .prefixed 0x46 1 0x01 { blank with h := 0xC1 })
      (fun t => t.f == 0x20 && t.mem == []) = true := by decide

/-- R249. -/
theorem test_res_0_A :
    after (fresh .prefixed 0x87 { blank with a := 0xFF, f := 0xB0 })
      (fun t => t.a == 0xFE && t.f == 0xB0) = true := by decide

/-- R250, c2. -/
theorem test_res_7_mHL :
    after (midway .prefixed 0xBE 1 0xFF { blank with h := 0xC1 })
      (fun t => byteAt t 0xC100 == 0x7F) = true := by decide

/-- R251. -/
theorem test_set_3_E :
    after (fresh .prefixed 0xDB blank)
      (fun t => t.e == 0x08 && t.f == 0) = true := by decide

/-- R252, c2. -/
theorem test_set_7_mHL :
    after (midway .prefixed 0xFE 1 0x00 { blank with h := 0xC1 })
      (fun t => byteAt t 0xC100 == 0x80) = true := by decide

/-! ### The driver: the decode fault, Reset, delegates -/

/-- P6: the fetch of 0xD3 in the call of INC A. -/
theorem test_fetch_of_undefined_faults :
    after (fresh .base 0x3C (withByte { blank with a := 0x07 } 0xC001 0xD3))
      (fun t => t.a == 0x08 && t.fault == some { opcode := 0xD3, addr := 0xC001 } && t.record == none && t.pc == 0xC002) = true := by decide

/-- R261, R283: nothing changes but the count of calls. -/
theorem test_stuck :
    after ({ blank with fault := some { opcode := 0xD3, addr := 0xC000 } })
      (fun t => t.fault == some { opcode := 0xD3, addr := 0xC000 } && t.cycles == 1 && t.bus == [] && t.pc == 0xC001 && t.a == 0) = true := by decide

/-- R52. -/
theorem test_delegated_write_is_an_event :
    after (fresh .base 0x77 { blank with a := 0x3C, h := 0xFF, delegatedWrite := [0xFF00] })
      (fun t => t.mem == [] && t.bus == [.write 0xFF00 0x3C]) = true := by decide

/-- V70-2. -/
theorem test_reset_onto_undefined :
    let t := (withByte blank 0x0100 0xD3).resetCore
    t.fault = some { opcode := 0xD3, addr := 0x0100 } ∧ t.record = none ∧ t.pc = 0x0101 ∧ t.a = 0x01 ∧ t.f = 0xB0 := by
  decide

/-- V70-5. -/
theorem test_first_call_after_reset : after State.reset (fun t => t.pc == 0x0102 && !t.ime && t.cycles == 1) = true := by
  decide

/-- A placed instruction is the one that the next step runs (log 10): LD HL,nn, and SWAP A after the escape byte. -/
theorem test_withFetchWord_base :
    ((State.reset.withFetchWord 24 0x123421).record.map Record.instr) = some .ld_HL_nn ∧
    after (State.reset.withFetchWord 24 0x123421) (fun t => (t.record.map Record.lo) == some 0x34) = true := by decide

theorem test_withFetchWord_prefixed :
    ((State.reset.withFetchWord 16 0x37CB).record.map Record.instr) = some .swap_A ∧
    after (State.reset.withFetchWord 16 0x37CB) (fun t => t.a == 0x10) = true := by decide

theorem test_withFetchWord_undefined :
    (State.reset.withFetchWord 8 0xFD).fault = some { opcode := 0xFD, addr := 0x0100 } := by decide
/-! ### Witnesses: each statement's hypotheses are met by a concrete state, every clause at its boundaries -/

/-- An open address and two delegated ones. -/
def delegatedState : State :=
  { blank with delegatedRead := [0xFF04#16, 0x0000#16], delegatedWrite := [0xFF04#16, 0xFFFF#16], mem := [(0xC000, 1)] }

theorem witness_BusReadFollowsDelegateThenStore :
    (0xFF04#16 ∈ delegatedState.delegatedRead ∧ 0x0000#16 ∈ delegatedState.delegatedRead) ∧
    (0xFFFF#16 ∉ delegatedState.delegatedRead ∧ 0x0001#16 ∉ delegatedState.delegatedRead) := by decide

theorem witness_BusWriteStoresOrIsAnEvent :
    0xFFFF#16 ∈ delegatedState.delegatedWrite ∧
    (0x0000#16 ∉ delegatedState.delegatedWrite ∧ Memory.wf delegatedState.mem) := by decide

theorem witness_StoreIsSeenByTheNextReadAndFetch :
    Memory.wf delegatedState.mem ∧ delegatedState.plainRead 0xC000 ∧ delegatedState.plainWrite 0xC000 ∧
      (∀ w ∈ [(0xC001#16, 0x01#8), (0xFFFF#16, 0x02#8)], w.1 ≠ 0xC000#16) ∧ delegatedState.prefixPending = false ∧
      ({ delegatedState with prefixPending := true } : State).prefixPending = true ∧ decodeBase 0x00#8 = .ok .nop ∧
      0xFD#8 ∈ undefinedBytes :=
  ⟨by decide, by unfold State.plainRead; decide, by unfold State.plainWrite; decide, by simp, rfl, rfl, by decide,
    by decide⟩

theorem witness_PushedWordIsPoppedBack :
    let s := { blank with sp := 0x0001#16 }
    Memory.wf s.mem ∧ s.plainWrite (s.sp - 1) ∧ s.plainWrite (s.sp - 2) ∧ s.plainRead (s.sp - 1) ∧
      s.plainRead (s.sp - 2) := by
  unfold State.plainRead State.plainWrite; decide

theorem witness_PairViewsAreComputedFromTheirHalves :
    let t := { blank with pc := 0 }
    blank ≠ t ∧ blank.a = t.a ∧ blank.f = t.f ∧ blank.b = t.b ∧ blank.c = t.c ∧ blank.d = t.d ∧ blank.e = t.e ∧
      blank.h = t.h ∧ blank.l = t.l := by decide

theorem witness_RegistersAreIndependentCells : Pair.hl ≠ Pair.sp ∧ StackPair.bc ≠ StackPair.af := by decide

theorem witness_FlagAccessorsTouchOneBit :
    (0 < 8 ∧ 7 < 8) ∧ exec .inc_B (inCycle .base 0x04 1) = .next (((inCycle .base 0x04 1).setReg .b 1).incFlags 0) ∧
    (formFlags (Instr.form .inc_B)).c = .kept ∧
    exec .bit_0_B (inCycle .prefixed 0x40 1) = .next ((inCycle .prefixed 0x40 1).bitFlags 0 0) ∧
    exec .cpl (inCycle .base 0x2F 1) = .next (inCycle .base 0x2F 1).cpl ∧ (formFlags (Instr.form .cpl)).z = .kept ∧
    exec .daa (inCycle .base 0x27 1) = .next (inCycle .base 0x27 1).daa ∧ (formFlags (Instr.form .daa)).n = .kept ∧
    exec .nop (inCycle .base 0x00 1) = .next (inCycle .base 0x00 1) ∧ (formFlags (Instr.form .nop)).h = .kept := by
  refine ⟨by decide, rfl, rfl, rfl, rfl, rfl, rfl, rfl, rfl, rfl⟩

/-- Cycles 1 to `n` of the instruction at a byte are met by a state with a record. -/
def cyclesMet (tbl : Table) (op : Byte) (n : Nat) : Bool :=
  (List.range n).all fun k =>
    ((inCycle tbl op (BitVec.ofNat 3 (k + 1))).record.map Record.i) == some (BitVec.ofNat 3 (k + 1))

theorem witness_LoadRegister :
    Instr.form .ld_A_B = .ldRR .a .b ∧ Instr.form .ld_B_n = .ldRN .b ∧ Instr.form .ld_L_mHL = .ldRM .l ∧
    cyclesMet .base 0x78 1 = true ∧ cyclesMet .base 0x06 2 = true ∧ cyclesMet .base 0x6E 2 = true := by decide

theorem witness_StoreToHL :
    Instr.form .ld_mHL_H = .ldMR .h ∧ cyclesMet .base 0x74 2 = true ∧ cyclesMet .base 0x36 3 = true := by decide

theorem witness_AccumulatorIndirectLoadsAndStores :
    [0x0A#8, 0x1A#8, 0xF2#8, 0x2A#8, 0x3A#8, 0x02#8, 0x12#8, 0xE2#8, 0x22#8, 0x32#8].all
      (fun op => cyclesMet .base op 2) = true := by decide

theorem witness_LoadAndStoreAccumulatorAbsolute :
    cyclesMet .base 0xFA 4 = true ∧ cyclesMet .base 0xEA 4 = true ∧ cyclesMet .base 0xF0 3 = true ∧
    cyclesMet .base 0xE0 3 = true := by decide

theorem witness_LoadPairAndStackPointer :
    Instr.form .ld_SP_nn = .ldPairNN .sp ∧ cyclesMet .base 0x31 3 = true ∧ cyclesMet .base 0x08 5 = true ∧
    cyclesMet .base 0xF9 2 = true := by decide

theorem witness_PushAndPopPairs :
    Instr.form .push_AF = .push .af ∧ Instr.form .pop_BC = .pop .bc ∧ cyclesMet .base 0xF5 4 = true ∧
    cyclesMet .base 0xC1 3 = true := by decide

theorem witness_AccumulatorOperations :
    Instr.form .cp_B = .aluR .cp .b ∧ Instr.form .add_A_mHL = .aluM .add ∧ Instr.form .sbc_A_n = .aluN .sbc ∧
    cyclesMet .base 0xB8 1 = true ∧ cyclesMet .base 0x86 2 = true ∧ cyclesMet .base 0xDE 2 = true := by decide

theorem witness_AccumulatorOperationFormulas :
    (AluOp.adc = .add ∨ AluOp.adc = .adc) ∧ (AluOp.cp = .sub ∨ AluOp.cp = .sbc ∨ AluOp.cp = .cp) ∧
    (AluOp.or = .and ∨ AluOp.or = .xor ∨ AluOp.or = .or) ∧ 0 < 8 ∧ 7 < 8 := by decide

theorem witness_IncrementAndDecrementRegister :
    Instr.form .inc_A = .incR .a ∧ Instr.form .dec_B = .decR .b ∧ cyclesMet .base 0x3C 1 = true ∧
    cyclesMet .base 0x05 1 = true := by decide

theorem witness_IncrementAndDecrementMemory : cyclesMet .base 0x34 3 = true ∧ cyclesMet .base 0x35 3 = true := by decide

theorem witness_DaaAdjustsDecimalAdditionAndSubtraction : (0 < 100 ∧ 99 < 100) := by decide

theorem witness_AccumulatorAndFlagUnaries :
    [0x27#8, 0x2F#8, 0x37#8, 0x3F#8].all (fun op => cyclesMet .base op 1) = true := by decide

theorem witness_AccumulatorRotates :
    [0x07#8, 0x0F#8, 0x17#8, 0x1F#8].all (fun op => cyclesMet .base op 1) = true := by decide

theorem witness_RotatesAndShiftsByBits :
    (RotOp.sla = .rlc ∨ RotOp.sla = .rl ∨ RotOp.sla = .sla) ∧
    (RotOp.srl = .rrc ∨ RotOp.srl = .rr ∨ RotOp.srl = .sra ∨ RotOp.srl = .srl) ∧ 0 < 7 ∧ 6 < 7 ∧ 7 < 8 := by decide

theorem witness_SixteenBitArithmetic :
    Instr.form .inc_SP = .incPair .sp ∧ Instr.form .dec_BC = .decPair .bc ∧ Instr.form .add_HL_HL = .addHL .hl ∧
    [0x33#8, 0x0B#8, 0x29#8].all (fun op => cyclesMet .base op 2) = true := by decide

theorem witness_StackPointerPlusDisplacement : cyclesMet .base 0xE8 4 = true ∧ cyclesMet .base 0xF8 3 = true := by decide

theorem witness_AbsoluteJumps :
    Instr.form .jp_NZ_nn = .jpCc .nz ∧ cyclesMet .base 0xC3 4 = true ∧ cyclesMet .base 0xC2 4 = true ∧
    cyclesMet .base 0xE9 1 = true := by decide

theorem witness_RelativeJumps :
    Instr.form .jr_C_e = .jrCc .c ∧ cyclesMet .base 0x18 3 = true ∧ cyclesMet .base 0x38 3 = true := by decide

theorem witness_CallsAndRestarts :
    Instr.form .call_NC_nn = .callCc .nc ∧ Instr.form .rst_38 = .rst 7 ∧ cyclesMet .base 0xCD 6 = true ∧
    cyclesMet .base 0xD4 6 = true ∧ cyclesMet .base 0xFF 4 = true := by decide

theorem witness_Returns :
    Instr.form .ret_Z = .retCc .z ∧ cyclesMet .base 0xC9 4 = true ∧ cyclesMet .base 0xC8 5 = true ∧
    cyclesMet .base 0xD9 4 = true := by decide

theorem witness_SystemInstructions :
    [0x00#8, 0x76#8, 0x10#8, 0xF3#8, 0xFB#8, 0xCB#8].all (fun op => cyclesMet .base op 1) = true := by decide

theorem witness_PrefixedRotatesAndShifts :
    Instr.form .swap_A = .rotR .swap .a ∧ Instr.form .rl_mHL = .rotM .rl ∧ cyclesMet .prefixed 0x37 1 = true ∧
    cyclesMet .prefixed 0x16 3 = true := by decide

theorem witness_BitTests :
    Instr.form .bit_7_A = .bitR 7 .a ∧ Instr.form .bit_0_mHL = .bitM 0 ∧ cyclesMet .prefixed 0x7F 1 = true ∧
    cyclesMet .prefixed 0x46 2 = true := by decide

theorem witness_BitResetAndSet :
    Instr.form .res_0_B = .resR 0 .b ∧ Instr.form .res_7_mHL = .resM 7 ∧ Instr.form .set_7_A = .setR 7 .a ∧
    Instr.form .set_0_mHL = .setM 0 ∧ cyclesMet .prefixed 0x80 1 = true ∧ cyclesMet .prefixed 0xBE 3 = true ∧
    cyclesMet .prefixed 0xFF 1 = true ∧ cyclesMet .prefixed 0xC6 3 = true ∧ 0 < 8 ∧ 7 < 8 := by decide

theorem witness_UndefinedRowsRaiseTheDecodeFault : Instr.form .undefined_D3 = .undefined 0xD3 := by decide

theorem witness_EveryCycleOfEveryInstructionCompletes :
    Instr.wellFormed .call_nn = true ∧ (inCycle .base 0xCD 6).record.isSome = true ∧
    (Instr.form .call_nn).cycles.toNat = 6 ∧ (1 ≤ (1#3).toNat ∧ (6#3).toNat ≤ 6) ∧ ((0#3).toNat = 0 ∧ 6 < (7#3).toNat) := by
  decide

theorem witness_RegisterFrameOfEveryInstruction :
    exec .ld_A_B (inCycle .base 0x78 1) = .next ((inCycle .base 0x78 1).setReg .a 0) ∧
    Reg8.b ∉ formDestinations (Instr.form .ld_A_B) ∧ formWritesSP (Instr.form .ld_A_B) = false :=
  ⟨rfl, by decide, rfl⟩

theorem witness_FlagStringsHold :
    Instr.wellFormed .inc_mHL = true ∧ exec .inc_mHL (inCycle .base 0x34 3) = .next (inCycle .base 0x34 3) ∧
    (3#3 : BitVec 3) ≠ formFlagCycle (Instr.form .inc_mHL) ∧ (2#3 : BitVec 3) = formFlagCycle (Instr.form .inc_mHL) ∧
    (∃ t, exec .inc_mHL (inCycle .base 0x34 2) = .next t) ∧ (inCycle .base 0x34 2).f &&& 0x0F#8 = 0x00#8 :=
  ⟨rfl, rfl, by decide, by decide, ⟨_, rfl⟩, by decide⟩

theorem witness_LowNibbleOfFStaysZero :
    (fresh .base 0x00 blank).f &&& 0x0F#8 = 0x00#8 ∧ ∃ t, step (fresh .base 0x00 blank) = .next t :=
  ⟨by decide, ⟨_, rfl⟩⟩

theorem witness_MemoryFrameOfEveryInstruction :
    (∃ t, exec .call_nn (inCycle .base 0xCD 5) = .next t) ∧
    formStoreAddress (Instr.form .call_nn) 5 (recordOf .base 0xCD 5) (inCycle .base 0xCD 5) = some 0xCFFF#16 ∧
    0xCFFE#16 ≠ 0xCFFF#16 ∧
    formStoreAddress (Instr.form .call_nn) 6 (recordOf .base 0xCD 6) (inCycle .base 0xCD 6) = none :=
  ⟨⟨_, rfl⟩, by decide, by decide, by decide⟩

theorem witness_ModeFrameOfEveryInstruction :
    Instr.wellFormed .ei = true ∧ (∃ t, exec .ei (inCycle .base 0xFB 1) = .next t) ∧ Instr.ei ≠ .di ∧ Instr.ei ≠ .reti ∧
    Instr.reti ≠ .di ∧ Instr.reti ≠ .ei ∧ Instr.ei ≠ .halt ∧ Instr.ei ≠ .stop ∧ Instr.ei ≠ .prefixCB :=
  ⟨rfl, ⟨_, rfl⟩, by decide, by decide, by decide, by decide, by decide, by decide, by decide⟩

theorem witness_DecodeFailsExactlyOnUndefinedBytes :
    0xD3#8 ∈ undefinedBytes ∧ 0xFD#8 ∈ undefinedBytes ∧ 0x00#8 ∉ undefinedBytes ∧ 0xFF#8 ∉ undefinedBytes := by decide

theorem witness_DecodeAndEncodeAgree :
    Instr.wellFormed .rlc_B = true ∧ Instr.rlc_B ≠ .prefixCB ∧ decodeBase 0xFF#8 = .ok .rst_38 := by decide

theorem witness_PrefixedDecodeIsTotalByFields :
    ({ blank with prefixPending := true } : State).prefixPending = true ∧ blank.prefixPending = false ∧
    blank.fetch.record.isSome = true := by decide

theorem witness_StepIsOneMachineCycle :
    (fresh .base 0x00 blank).fault = none ∧ (fresh .base 0x00 blank).record = some (recordOf .base 0x00 0) ∧
    (recordOf .base 0x00 0).remaining = 1 ∧ (recordOf .base 0xCD 0).remaining ≠ 1 ∧
    ({ blank with fault := some ⟨0xD3#8, 0xC000#16⟩ } : State).fault.isSome = true := by decide

theorem witness_FetchDecodesTheByteAtPC :
    ({ blank with prefixPending := true } : State).prefixPending = true ∧ blank.prefixPending = false ∧
    decodeBase (blank.readValue blank.pc) = .ok .nop ∧
    (withByte blank 0xC001 0xFD).readValue 0xC001 ∈ undefinedBytes := by decide

theorem witness_StepRunsTheInstructionAtPC :
    blank.prefixPending = false ∧ blank.fault = none ∧ decodeBase (blank.readValue blank.pc) = .ok .nop ∧
    ({ blank with prefixPending := true } : State).fault = none := by decide

/-- A freshly fetched record is one. -/
theorem fresh_freshlyFetched (tbl : Table) (op : Byte) (s : State) (hf : s.fault = none) (hp : s.prefixPending = false) :
    (fresh tbl op s).freshlyFetched (rowOf tbl op) :=
  ⟨hf, hp, recordOf tbl op 0, rfl, rfl, rfl, by simp [recordOf], rfl⟩

/-- `blank` with a freshly fetched CALL, conditional CALL, RET or NOP meets the invariant. -/
theorem fresh_inv (op : Byte) (hw : (rowOf .base op).wellFormed = true) (hc : (rowOf .base op).form.cycles ≠ 0) :
    (fresh .base op blank).Inv :=
  ⟨show blank.f &&& 0x0F#8 = 0x00#8 by decide, show Memory.wf blank.mem by decide,
    show blank.platformWf by unfold State.platformWf; decide, rfl,
    ⟨hw, rfl, by simpa [recordOf] using hc, .inl (by simp [recordOf])⟩⟩

theorem witness_PrefixSelectsThePrefixedTable :
    (fresh .base 0xCB blank).freshlyFetched .prefixCB ∧ (fresh .base 0xCB blank).plainRead 0xC001 :=
  ⟨fresh_freshlyFetched .base 0xCB blank rfl rfl, by unfold State.plainRead; decide⟩

theorem witness_InvariantHoldsAfterReset : Memory.wf blank.mem ∧ blank.platformWf := by
  unfold State.platformWf; decide

/-- The state right after reset meets the invariant, and so does a state stuck on a decode fault. -/
theorem witness_StepKeepsTheInvariantAndNeverStops :
    State.reset.Inv ∧ State.Inv { blank with fault := some ⟨0xD3#8, 0xC000#16⟩ } :=
  ⟨⟨by unfold State.flagsWf; decide, by decide, by unfold State.platformWf; decide, rfl,
      ⟨rfl, rfl, by decide, .inl rfl⟩⟩,
    ⟨by unfold State.flagsWf; decide, by decide, by unfold State.platformWf; decide, rfl, by decide, by decide⟩⟩

theorem witness_FaultedCoreIsStuckUntilReset :
    let s : State := { blank with fault := some ⟨0xD3#8, 0xC000#16⟩ }
    s.fault.isSome = true ∧
    decodeBase (s.resetRegisters.readValue 0x0100#16) ≠ .error (.undefinedOpcode (s.resetRegisters.readValue 0x0100#16)) ∧
    (withByte s 0x0100 0xD3).resetRegisters.readValue 0x0100#16 ∈ undefinedBytes := by decide

theorem witness_ResetLeavesTheDocumentedState :
    blank.mem = [] ∧ blank.delegatedRead = [] ∧ blank.delegatedWrite = [] ∧ blank.bus = [] ∧
    (fresh .base 0xCD blank).mem = blank.mem ∧ (fresh .base 0xCD blank).delegatedRead = blank.delegatedRead ∧
    (fresh .base 0xCD blank).delegatedWrite = blank.delegatedWrite ∧ (fresh .base 0xCD blank).bus = blank.bus := by decide

theorem witness_DocumentedCycleCounts :
    (fresh .base 0xC4 blank).Inv ∧ Instr.wellFormed .call_NZ_nn = true ∧
    (fresh .base 0xC4 blank).freshlyFetched .call_NZ_nn ∧
    (fresh .base 0xC4 blank).documentedCycles (Instr.form .call_NZ_nn) = 6 ∧
    (fresh .base 0xCC blank).Inv ∧ (fresh .base 0xCC blank).freshlyFetched .call_Z_nn ∧
    (fresh .base 0xCC blank).documentedCycles (Instr.form .call_Z_nn) = 3 :=
  ⟨fresh_inv 0xC4 rfl (by decide), rfl, fresh_freshlyFetched .base 0xC4 blank rfl rfl, by decide,
    fresh_inv 0xCC rfl (by decide), fresh_freshlyFetched .base 0xCC blank rfl rfl, by decide⟩

theorem witness_AtMostOneBusAccessPerCall :
    (fresh .base 0xCD blank).Inv ∧ ∃ t, step (fresh .base 0xCD blank) = .next t :=
  ⟨fresh_inv 0xCD rfl (by decide), ⟨_, rfl⟩⟩

theorem witness_ScheduledEnableOnlyAfterEI :
    (∃ t, step (fresh .base 0xFB blank) = .next t ∧ t.imeScheduled = true) ∧
    (∃ t, step (fresh .base 0x00 { blank with imeScheduled := true }) = .next t) ∧
    (fresh .base 0x00 { blank with imeScheduled := true }).imeScheduled = true ∧
    (fresh .base 0x00 { blank with imeScheduled := true }).fault = none ∧
    (fresh .base 0x00 { blank with imeScheduled := true }).record = some (recordOf .base 0x00 0) ∧
    (recordOf .base 0x00 0).instr ≠ .di ∧ (recordOf .base 0xF3 0).instr = .di ∧
    (fresh .base 0xF3 blank).record = some (recordOf .base 0xF3 0) ∧
    (∃ t, step (fresh .base 0xF3 { blank with imeScheduled := true }) = .next t) :=
  ⟨⟨_, rfl, rfl⟩, ⟨_, rfl⟩, rfl, rfl, rfl, by decide, by decide, rfl, ⟨_, rfl⟩⟩

theorem witness_NothingReadsHaltStopOrIme : ∃ t, step (fresh .base 0x76 blank) = .next t := ⟨_, rfl⟩

theorem witness_CallsPushAndJumpOrFallThrough :
    (fresh .base 0xCD blank).freshlyFetched .call_nn ∧ (fresh .base 0xC4 blank).freshlyFetched .call_NZ_nn ∧
    Instr.form .call_NZ_nn = .callCc .nz ∧ Memory.wf blank.mem ∧
    blank.plainRead blank.pc ∧ blank.plainRead (blank.pc + 1) ∧ blank.plainWrite (blank.sp - 1) ∧
    blank.plainWrite (blank.sp - 2) ∧ blank.cond .nz = true ∧ blank.cond .z = false ∧
    Instr.form .call_Z_nn = .callCc .z ∧ (fresh .base 0xCC blank).freshlyFetched .call_Z_nn :=
  ⟨fresh_freshlyFetched .base 0xCD blank rfl rfl, fresh_freshlyFetched .base 0xC4 blank rfl rfl, rfl, by decide,
    by unfold State.plainRead; decide, by unfold State.plainRead; decide, by unfold State.plainWrite; decide,
    by unfold State.plainWrite; decide, by decide, by decide, rfl, fresh_freshlyFetched .base 0xCC blank rfl rfl⟩

theorem witness_ReturnGoesToThePoppedAddress :
    (fresh .base 0xC9 blank).freshlyFetched .ret ∧ (fresh .base 0xD9 blank).freshlyFetched .reti ∧
    blank.plainRead blank.sp ∧ blank.plainRead (blank.sp + 1) :=
  ⟨fresh_freshlyFetched .base 0xC9 blank rfl rfl, fresh_freshlyFetched .base 0xD9 blank rfl rfl,
    by unfold State.plainRead; decide, by unfold State.plainRead; decide⟩

end Sys2Proof.Tests
end

/-! PROOFS. The F register: what a write of one flag, of all four and of AF does to its bits, what every machine cycle
may do to it, and the obligations of 10_state.md R21, R23 and R25. -/

namespace Sys2Proof.Machine

/-! ### The bits of F after a write -/

/-- A bit of a byte after one bit was written, R25. -/
theorem getLsbD_writeBit (v : Byte) {k : Nat} (hk : k < 8) (b : Bool) (j : Nat) :
    (writeBit v k b).getLsbD j = if j = k then b else v.getLsbD j := by
  have hbit : (1#8 <<< k).getLsbD j = decide (j = k) := by
    rw [← BitVec.twoPow_eq, BitVec.getLsbD_twoPow]
    simp [hk, eq_comm]
  by_cases hj : j < 8
  · cases b with
    | true =>
      change (v ||| 1#8 <<< k).getLsbD j = _
      rw [BitVec.getLsbD_or, hbit]
      by_cases hjk : j = k <;> simp [hjk]
    | false =>
      change (v &&& ~~~(1#8 <<< k)).getLsbD j = _
      rw [BitVec.getLsbD_and, BitVec.getLsbD_not, hbit]
      by_cases hjk : j = k <;> simp [hjk, hj]
  · have hne : j ≠ k := by omega
    rw [if_neg hne, BitVec.getLsbD_of_ge _ _ (by omega), BitVec.getLsbD_of_ge _ _ (by omega)]

/-- The same bit in `simp`'s spelling. -/
@[simp] theorem getElem_writeBit (v : Byte) {k j : Nat} (hk : k < 8) (hj : j < 8) (b : Bool) :
    (writeBit v k b)[j] = if j = k then b else v[j] := getLsbD_writeBit v hk b j

/-- The mask of the low nibble keeps bits 3 to 0 and clears the others. -/
theorem getLsbD_and_lowMask (v : Byte) (j : Nat) : (v &&& 0x0F#8).getLsbD j = (v.getLsbD j && decide (j < 4)) := by
  have hmask : ∀ i : Fin 8, (0x0F#8).getLsbD i = decide (i.val < 4) := by decide
  rw [BitVec.getLsbD_and]
  by_cases hj : j < 8
  · rw [hmask ⟨j, hj⟩]
  · rw [BitVec.getLsbD_of_ge v j (by omega)]; rfl

/-- Writing a bit of the high nibble leaves the low nibble as it is, R23. -/
@[simp] theorem lowNibble_writeBit (v : Byte) {k : Nat} (hk : k < 8) (hk4 : 4 ≤ k) (b : Bool) :
    writeBit v k b &&& 0x0F#8 = v &&& 0x0F#8 := by
  refine BitVec.eq_of_getLsbD_eq fun j _ => ?_
  rw [getLsbD_and_lowMask, getLsbD_and_lowMask, getLsbD_writeBit v hk]
  by_cases hjk : j = k
  · simp [show ¬ j < 4 by omega]
  · rw [if_neg hjk]

/-- The four flags of `znhc` are bits 7 to 4, and its low nibble is 0: R24, R142. -/
theorem znhc_bits : ∀ z n h c : Bool,
    (znhc z n h c).getLsbD 7 = z ∧ (znhc z n h c).getLsbD 6 = n ∧ (znhc z n h c).getLsbD 5 = h ∧
      (znhc z n h c).getLsbD 4 = c ∧ znhc z n h c &&& 0x0F#8 = 0x00#8 := by decide

/-- The mask of R22 clears the low nibble. -/
theorem lowNibble_and_highMask (v : Byte) : (v &&& 0xF0#8) &&& 0x0F#8 = 0x00#8 := by
  rw [BitVec.and_assoc, show 0xF0#8 &&& 0x0F#8 = 0x00#8 from rfl, BitVec.and_zero]

/-! ### The flag string as a relation between the old F and the new one -/

/-- F changes as a flag string allows (R12), and a zero low nibble stays zero (R23). -/
structure FlagString.Obeyed (fs : FlagString) (old new : Byte) : Prop where
  z : fs.z.obeyed (old.getLsbD 7) (new.getLsbD 7)
  n : fs.n.obeyed (old.getLsbD 6) (new.getLsbD 6)
  h : fs.h.obeyed (old.getLsbD 5) (new.getLsbD 5)
  c : fs.c.obeyed (old.getLsbD 4) (new.getLsbD 4)
  low : old &&& 0x0F#8 = 0x00#8 → new &&& 0x0F#8 = 0x00#8

/-- A write of all four flags obeys a flag string when each written value does. -/
theorem obeyed_znhc {fs : FlagString} {old : Byte} {z n h c : Bool}
    (hz : fs.z.obeyed (old.getLsbD 7) z) (hn : fs.n.obeyed (old.getLsbD 6) n)
    (hh : fs.h.obeyed (old.getLsbD 5) h) (hc : fs.c.obeyed (old.getLsbD 4) c) :
    fs.Obeyed old (znhc z n h c) := by
  obtain ⟨ez, en, eh, ec, elow⟩ := znhc_bits z n h c
  exact ⟨by rwa [ez], by rwa [en], by rwa [eh], by rwa [ec], fun _ => elow⟩

/-! ### The operations that write flags

Each obeys the flag string that its instructions have in R92 and R93. -/

section FlagWriters

variable (s : State)

theorem alu_obeyed (o : AluOp) (x : Byte) : (aluFlagString o).Obeyed s.f (s.alu o x).f := by
  cases o with
  | add => exact obeyed_znhc trivial rfl trivial trivial
  | adc => exact obeyed_znhc trivial rfl trivial trivial
  | sub => exact obeyed_znhc trivial rfl trivial trivial
  | sbc => exact obeyed_znhc trivial rfl trivial trivial
  | and => exact obeyed_znhc trivial rfl rfl rfl
  | xor => exact obeyed_znhc trivial rfl rfl rfl
  | or => exact obeyed_znhc trivial rfl rfl rfl
  | cp => exact obeyed_znhc trivial rfl trivial trivial

/-- A rotate of a byte by any operation; SWAP clears C. -/
theorem rotFlags_obeyed (o : RotOp) (x : Byte) (carry : Bool) :
    (rotFlagString o).Obeyed s.f (s.rotFlags (rotOut o x carry)).f := by
  by_cases ho : o = .swap
  · subst ho; exact obeyed_znhc trivial rfl rfl rfl
  · rw [rotFlagString, if_neg ho]; exact obeyed_znhc trivial rfl rfl trivial

theorem rotA_obeyed (o : RotOp) : FlagString.Obeyed ⟨.zero, .zero, .zero, .computed⟩ s.f (s.rotA o).f :=
  obeyed_znhc rfl rfl rfl trivial

theorem incFlags_obeyed (x : Byte) :
    FlagString.Obeyed ⟨.computed, .zero, .computed, .kept⟩ s.f (s.incFlags x).f := by
  constructor <;> simp [State.incFlags, FlagEffect.obeyed]

theorem decFlags_obeyed (x : Byte) :
    FlagString.Obeyed ⟨.computed, .one, .computed, .kept⟩ s.f (s.decFlags x).f := by
  constructor <;> simp [State.decFlags, FlagEffect.obeyed]

theorem bitFlags_obeyed (x : Byte) (k : BitVec 3) :
    FlagString.Obeyed ⟨.computed, .zero, .one, .kept⟩ s.f (s.bitFlags x k).f := by
  constructor <;> simp [State.bitFlags, FlagEffect.obeyed]

theorem addHLFlags_obeyed (x y : Word) :
    FlagString.Obeyed ⟨.kept, .zero, .computed, .computed⟩ s.f (s.addHLFlags x y).f := by
  constructor <;> simp [State.addHLFlags, FlagEffect.obeyed]

theorem daa_obeyed : FlagString.Obeyed ⟨.computed, .kept, .zero, .computed⟩ s.f s.daa.f := by
  constructor <;> simp [State.daa, FlagEffect.obeyed]

theorem cpl_obeyed : FlagString.Obeyed ⟨.kept, .one, .one, .kept⟩ s.f s.cpl.f := by
  constructor <;> simp [State.cpl, FlagEffect.obeyed]

theorem scf_obeyed : FlagString.Obeyed ⟨.kept, .zero, .zero, .one⟩ s.f s.scf.f := by
  constructor <;> simp [State.scf, FlagEffect.obeyed]

theorem ccf_obeyed : FlagString.Obeyed ⟨.kept, .zero, .zero, .computed⟩ s.f s.ccf.f := by
  constructor <;> simp [State.ccf, FlagEffect.obeyed]

/-- POP AF writes every flag and masks the low nibble away, R22, R134. -/
theorem setAF_obeyed (v : Word) :
    FlagString.Obeyed ⟨.computed, .computed, .computed, .computed⟩ s.f (s.setAF v).f :=
  ⟨trivial, trivial, trivial, trivial, fun _ => lowNibble_and_highMask (lo8 v)⟩

end FlagWriters

/-! ### The cycle lines -/

/-- A cycle line leaves F alone or changes it as the flag string says. -/
def LeavesFOrObeys (fs : FlagString) (line : Line) : Prop :=
  ∀ (r : Record) (s : State), (line r s).f = s.f ∨ fs.Obeyed s.f (line r s).f

/-- A line that leaves F alone, whatever the flag string says. -/
theorem LeavesFOrObeys.leaves {fs : FlagString} {line : Line} (h : ∀ r s, (line r s).f = s.f) :
    LeavesFOrObeys fs line := fun r s => .inl (h r s)

/-- Every cycle line of a schedule leaves F alone or obeys the form's flag string: R25. First the forms that write
flags, then those that write a register or a pair from a parameter; the lines of all others leave F by their definition. -/
theorem formLines_leavesFOrObeys (f : Form) : (formLines f).Forall (LeavesFOrObeys (formFlags f)) := by
  cases f with
  | aluR o src => exact fun _ s => .inr (alu_obeyed s o _)
  | aluM o => exact ⟨.leaves fun _ _ => rfl, fun _ s => .inr (alu_obeyed s o _)⟩
  | aluN o => exact ⟨.leaves fun _ _ => rfl, fun _ s => .inr (alu_obeyed s o _)⟩
  | incR dst => exact fun _ s => .inr (setReg_f s dst _ ▸ incFlags_obeyed _ _)
  | incM => exact ⟨.leaves fun _ _ => rfl, fun r s => .inr (incFlags_obeyed _ _), .leaves fun _ _ => rfl⟩
  | decR dst => exact fun _ s => .inr (setReg_f s dst _ ▸ decFlags_obeyed _ _)
  | decM => exact ⟨.leaves fun _ _ => rfl, fun r s => .inr (decFlags_obeyed _ _), .leaves fun _ _ => rfl⟩
  | daa => exact fun _ s => .inr (daa_obeyed s)
  | cpl => exact fun _ s => .inr (cpl_obeyed s)
  | scf => exact fun _ s => .inr (scf_obeyed s)
  | ccf => exact fun _ s => .inr (ccf_obeyed s)
  | rlca => exact fun _ s => .inr (rotA_obeyed s _)
  | rrca => exact fun _ s => .inr (rotA_obeyed s _)
  | rla => exact fun _ s => .inr (rotA_obeyed s _)
  | rra => exact fun _ s => .inr (rotA_obeyed s _)
  | addHL dd => exact ⟨.leaves fun _ _ => rfl, fun _ s => .inr (addHLFlags_obeyed _ _ _)⟩
  | addSPE =>
    exact ⟨.leaves fun _ _ => rfl, .leaves fun _ _ => rfl, .leaves fun _ _ => rfl,
      fun _ _ => .inr (obeyed_znhc rfl rfl trivial trivial)⟩
  | ldHLSPE =>
    exact ⟨.leaves fun _ _ => rfl, .leaves fun _ _ => rfl, fun _ _ => .inr (obeyed_znhc rfl rfl trivial trivial)⟩
  | pop qq =>
    refine ⟨.leaves fun _ _ => rfl, .leaves fun _ _ => rfl, ?_⟩
    cases qq with
    | bc => exact .leaves fun _ _ => rfl
    | de => exact .leaves fun _ _ => rfl
    | hl => exact .leaves fun _ _ => rfl
    | af => exact fun _ s => .inr (setAF_obeyed s _)
  | rotR o src => exact fun _ s => .inr (setReg_f s src _ ▸ rotFlags_obeyed _ o _ _)
  | rotM o => exact ⟨.leaves fun _ _ => rfl, fun _ _ => .inr (rotFlags_obeyed _ o _ _), .leaves fun _ _ => rfl⟩
  | bitR k src => exact fun _ s => .inr (bitFlags_obeyed s _ k)
  | bitM k => exact ⟨.leaves fun _ _ => rfl, fun _ s => .inr (bitFlags_obeyed s _ k)⟩
  | ldRR dst src => exact .leaves fun _ s => setReg_f s dst _
  | ldRN dst => exact ⟨.leaves fun _ _ => rfl, .leaves fun _ s => setReg_f s dst _⟩
  | ldRM dst => exact ⟨.leaves fun _ _ => rfl, .leaves fun _ s => setReg_f s dst _⟩
  | resR k src => exact .leaves fun _ s => setReg_f s src _
  | setR k src => exact .leaves fun _ s => setReg_f s src _
  | ldPairNN dd => exact ⟨.leaves fun _ _ => rfl, .leaves fun _ _ => rfl, .leaves fun _ s => setPair_f s dd _⟩
  | incPair dd => exact ⟨.leaves fun _ _ => rfl, .leaves fun _ s => setPair_f s dd _⟩
  | decPair dd => exact ⟨.leaves fun _ _ => rfl, .leaves fun _ s => setPair_f s dd _⟩
  | undefined op => trivial
  | _ => and_intros <;> exact .leaves fun _ _ => rfl

/-- One cycle of an instruction leaves F alone or changes it as its flag string says. -/
theorem exec_f_cases {i : Instr} {s t : State} (h : exec i s = .next t) :
    t.f = s.f ∨ (formFlags i.form).Obeyed s.f t.f := by
  obtain ⟨op, -, rfl⟩ | ⟨r, line, k, -, hline, -, rfl⟩ := exec_next_cases h
  · exact .inl rfl
  · exact List.forall_iff_forall_mem.mp (formLines_leavesFOrObeys i.form) line (List.mem_of_getElem? hline) r s

/-! ### The low nibble of F through a step -/

@[simp] theorem endCycle_f (s : State) : s.endCycle.f = s.f := by
  cases hr : s.record with
  | none => rw [State.endCycle, hr]
  | some r => rw [endCycle_of_record hr]; split <;> simp

/-- One cycle of an instruction keeps a zero low nibble of F. -/
theorem exec_flagsWf {i : Instr} {s t : State} (hs : s.flagsWf) (h : exec i s = .next t) : t.flagsWf := by
  obtain hf | hobey := exec_f_cases h
  · rwa [State.flagsWf, hf]
  · exact hobey.low hs

/-- A step keeps a zero low nibble of F. -/
theorem step_flagsWf {s t : State} (hs : s.flagsWf) (h : step s = .next t) : t.flagsWf := by
  obtain ⟨-, rfl⟩ | ⟨-, r, u, -, hexec, rfl⟩ := step_next h
  · exact hs
  · have hu : u.flagsWf := exec_flagsWf (s := s.beginCycle r) hs hexec
    rwa [State.flagsWf, endCycle_f]

theorem resetCore_flagsWf (s : State) : s.resetCore.flagsWf := by
  rw [State.flagsWf, State.resetCore, fetch_f, resetRegisters_f]
  rfl

/-! ### The pair views -/

/-- `cat16` over the integers: R8, R21. -/
theorem cat16_toNat (hi lo : Byte) : (cat16 hi lo).toNat = 256 * hi.toNat + lo.toNat := by
  rw [cat16, BitVec.toNat_append, ← Nat.shiftLeft_add_eq_or_of_lt lo.isLt, Nat.shiftLeft_eq, Nat.mul_comm]

/-! ### The obligations -/

/-- Settles O6: each view is `cat16` of its halves, and reads nothing else of the state. -/
theorem pairViewsAreComputedFromTheirHalves : Obligations.PairViewsAreComputedFromTheirHalves := by
  refine ⟨fun s => ⟨cat16_toNat _ _, cat16_toNat _ _, cat16_toNat _ _, cat16_toNat _ _⟩,
    fun s v => ⟨rfl, rfl, rfl, rfl, rfl, rfl, rfl, rfl⟩, ?_⟩
  intro s t ha hf hb hc hd he hh hl
  exact ⟨congrArg₂ cat16 ha hf, congrArg₂ cat16 hb hc, congrArg₂ cat16 hd he, congrArg₂ cat16 hh hl⟩

/-- Settles O9: a flag write is `writeBit` at the flag's position, and a cycle that changes F obeys the flag string. -/
theorem flagAccessorsTouchOneBit : Obligations.FlagAccessorsTouchOneBit := by
  refine ⟨fun s => ⟨rfl, rfl, rfl, rfl⟩, ?_, fun s b => ⟨rfl, rfl, rfl, rfl⟩, ?_⟩
  · intro s b k _
    exact ⟨getLsbD_writeBit s.f (by decide) b k, getLsbD_writeBit s.f (by decide) b k,
      getLsbD_writeBit s.f (by decide) b k, getLsbD_writeBit s.f (by decide) b k⟩
  · intro i s t h
    obtain hf | ⟨hz, hn, hh, hc, -⟩ := exec_f_cases h
    · simp only [State.flagZ, State.flagN, State.flagH, State.flagC, hf, implies_true, and_self]
    · exact ⟨fun hk => by rwa [hk] at hz, fun hk => by rwa [hk] at hn, fun hk => by rwa [hk] at hh,
        fun hk => by rwa [hk] at hc⟩

/-- Settles O39: the invariant `flagsWf` through Reset and every step, and the writes of F. -/
theorem lowNibbleOfFStaysZero : Obligations.LowNibbleOfFStaysZero := by
  refine ⟨fun s t hs h => step_flagsWf hs h, resetCore_flagsWf, ?_⟩
  intro s b z n h c v
  obtain ⟨-, -, -, -, hlow⟩ := znhc_bits z n h c
  refine ⟨?_, ?_, ?_, ?_, hlow, setAF_f s v⟩
  all_goals exact lowNibble_writeBit s.f (by decide) (by decide) b

end Sys2Proof.Machine

/-! PROOFS. The bus write: what it does at a delegated address and at a plain one, and the obligation of 20_memory.md
R52. -/

namespace Sys2Proof.Machine

/-- At an address with a write delegate, `MemWrite` records the event and does nothing else: R52. -/
theorem memWrite_delegated {s : State} {addr : Word} (h : addr ∈ s.delegatedWrite) (v : Byte) :
    s.memWrite addr v = { s with bus := .write addr v :: s.bus } := by
  rw [State.memWrite, if_pos (List.contains_iff_mem.mpr h)]

/-- At an address without a write delegate, `MemWrite` stores the byte and records the write: R52. -/
theorem memWrite_plain {s : State} {addr : Word} (h : s.plainWrite addr) (v : Byte) :
    s.memWrite addr v = { s with mem := Memory.write s.mem addr v, bus := .write addr v :: s.bus } := by
  rw [State.memWrite, if_neg (mt List.contains_iff_mem.mp h)]

/-- Settles O2: the two cases of R52, and read after write of the backing store in the plain one. -/
theorem busWriteStoresOrIsAnEvent : Obligations.BusWriteStoresOrIsAnEvent := by
  intro s addr v
  refine ⟨fun hdelegated => memWrite_delegated hdelegated v, fun hplain hwf => ?_⟩
  have hmem : (s.memWrite addr v).mem = Memory.write s.mem addr v := congrArg State.mem (memWrite_plain hplain v)
  refine ⟨?_, fun other hne => ?_, rfl⟩
  · rw [hmem, read_write_same s.mem hwf]
  · rw [hmem, read_write_other s.mem addr other v hne]

end Sys2Proof.Machine

/-! PROOFS. The second opcode table: what its map answers, when a fetch reads it, and the obligation of 30_encoding.md
R83. -/

namespace Sys2Proof.Machine

/-! ### The map of R93 against the fields of R80 -/

/-- No value of the three fields gives an undefined form: each group has a register form and an (HL) form. -/
theorem decodePrefixedByFields_ne_undefined (op x : Byte) : decodePrefixedByFields op ≠ .undefined x := by
  unfold decodePrefixedByFields
  split <;> cases regAt (op.extractLsb' 0 3) <;> simp

/-- Each of the 256 entries of the prefixed map is the instruction of its fields. Both sides are tables, so this is
their comparison entry by entry. -/
theorem form_decodePrefixed : ∀ op : Byte, (decodePrefixed op).form = decodePrefixedByFields op := by decide

/-- The eleven undefined terms are named by their forms: each has the form of its byte. -/
theorem undefinedInstrs_form : ∀ i ∈ undefinedInstrs, ∃ op, i.form = .undefined op := by
  rw [← List.forall_iff_forall_mem]
  and_intros <;> exact ⟨_, rfl⟩

/-- An instruction whose form is no undefined byte is well formed: the converse of `form_of_wellFormed`. -/
theorem wellFormed_of_form {i : Instr} (h : ∀ op, i.form ≠ .undefined op) : i.wellFormed = true := by
  have hmem : i ∉ undefinedInstrs := fun hi => (undefinedInstrs_form i hi).elim h
  simpa [Instr.wellFormed] using hmem

theorem decodePrefixed_wellFormed (op : Byte) : (decodePrefixed op).wellFormed = true :=
  wellFormed_of_form fun x => form_decodePrefixed op ▸ decodePrefixedByFields_ne_undefined op x

/-! ### The table that a fetch reads -/

/-- With the prefix pending, a fetch builds a record of the second table and cannot fail: R83, R88. -/
theorem fetch_of_prefixPending {s : State} (h : s.prefixPending = true) :
    s.fetch = { s.imm8.2 with
      prefixPending := false
      record := some
        (newRecord .prefixed (s.readValue s.pc) (decodePrefixed (s.readValue s.pc)) s.imm8.2.bus s.cycles) } :=
  ((decodeFetched_cases s.imm8.2 (s.readValue s.pc) s.pc).resolve_right (by simp [h])).2

/-- Without the prefix pending, a record that a fetch builds is one of the base table: R88. -/
theorem fetch_table_of_not_prefixPending {s : State} (h : s.prefixPending = false) {r : Record}
    (hr : s.fetch.record = some r) : r.table = .base := by
  rw [fetch_eq] at hr
  obtain ⟨hp, -⟩ | ⟨-, i, -, hf⟩ | ⟨-, -, hf⟩ := decodeFetched_cases s.imm8.2 (s.readValue s.pc) s.pc
  · simp [h] at hp
  · rw [hf] at hr
    cases hr
    rfl
  · rw [hf] at hr
    cases hr

/-- Settles O45: the map of the second table against its fields, and the two cases of a fetch. -/
theorem prefixedDecodeIsTotalByFields : Obligations.PrefixedDecodeIsTotalByFields := by
  refine ⟨fun op => ⟨decodePrefixed_wellFormed op, (form_decodePrefixed op).symm⟩, fun s h => ?_,
    fun s h r hr => fetch_table_of_not_prefixPending h hr⟩
  rw [fetch_of_prefixPending h]
  exact ⟨_, rfl, rfl, rfl, rfl⟩

end Sys2Proof.Machine

/-! PROOFS. The encoder against the two opcode tables, and the obligations of 30_encoding.md R70, R81, R82, R92 and R93.
The one idea: the opcode of a form and the row of a table are inverse to each other. -/

namespace Sys2Proof.Machine

/-! ### Rows and opcodes -/

/-- Each instruction stands in the table and at the byte of its form's opcode. -/
theorem rowOf_opcode (i : Instr) : rowOf i.form.opcode.1 i.form.opcode.2 = i := by
  cases i <;> rfl

/-- Each of the 512 rows has the opcode of its place: R92 and R93 against the bit patterns of R74 to R81. -/
theorem opcode_rowOf : ∀ (tbl : Table) (op : Byte), (rowOf tbl op).form.opcode = (tbl, op)
  | .base => by decide
  | .prefixed => by decide

/-- No two instructions have the same form. -/
theorem form_injective : Function.Injective Instr.form := fun i j h => by
  rw [← rowOf_opcode i, h, rowOf_opcode j]

/-! ### The encoder -/

theorem encode_of_base {i : Instr} {op : Byte} (h : i.form.opcode = (.base, op)) : encode i = [op] := by
  rw [encode, h]

theorem encode_of_prefixed {i : Instr} {op : Byte} (h : i.form.opcode = (.prefixed, op)) :
    encode i = [0xCB#8, op] := by
  rw [encode, h]

/-! ### The base decoder -/

/-- The base decoder answers the row of the byte when that is an instruction: R81. -/
theorem decodeBase_of_wellFormed {op : Byte} (h : (rowOf .base op).wellFormed = true) :
    decodeBase op = .ok (rowOf .base op) :=
  if_pos h

/-- The row of a byte is an instruction, unless it is one of the eleven bytes of R82. -/
theorem wellFormed_rowOf_base : ∀ op : Byte, (rowOf .base op).wellFormed = !undefinedBytes.contains op := by
  decide

theorem decodeBase_of_undefined {op : Byte} (h : op ∈ undefinedBytes) :
    decodeBase op = .error (.undefinedOpcode op) :=
  if_neg (by simpa [wellFormed_rowOf_base] using h : ¬ (rowOf .base op).wellFormed = true)

theorem decodeBase_of_not_undefined {op : Byte} (h : op ∉ undefinedBytes) : decodeBase op = .ok (rowOf .base op) :=
  decodeBase_of_wellFormed (by simpa [wellFormed_rowOf_base] using h)

/-- What the base decoder accepts is the row of the byte, and an instruction. -/
theorem decodeBase_ok {op : Byte} {i : Instr} (h : decodeBase op = .ok i) :
    op ∉ undefinedBytes ∧ rowOf .base op = i ∧ i.wellFormed = true := by
  by_cases hop : op ∈ undefinedBytes
  · rw [decodeBase_of_undefined hop] at h
    cases h
  · rw [decodeBase_of_not_undefined hop] at h
    cases h
    exact ⟨hop, rfl, by simpa [wellFormed_rowOf_base] using hop⟩

/-- What the base decoder rejects is one of the eleven bytes. -/
theorem decodeBase_error {op : Byte} {x : DecodeReject} (h : decodeBase op = .error x) : op ∈ undefinedBytes := by
  by_contra hop
  rw [decodeBase_of_not_undefined hop] at h
  cases h

/-! ### Decoding an encoding -/

/-- A base opcode decodes to its instruction whatever follows, PREFIX with a byte after it apart. -/
theorem decodeBytes_base {i : Instr} {op : Byte} (hw : i.wellFormed = true) (ho : i.form.opcode = (.base, op))
    {rest : List Byte} (hrest : i ≠ .prefixCB ∨ rest = []) : decodeBytes (op :: rest) = .ok i := by
  have hrow : rowOf .base op = i := by simpa [ho] using rowOf_opcode i
  have hbase : decodeBase op = .ok i := hrow ▸ decodeBase_of_wellFormed (hrow ▸ hw)
  cases rest with
  | nil => exact hbase
  | cons op' rest =>
    have hop : op ≠ 0xCB#8 := by
      rintro rfl
      exact hrest.elim (fun hne => hne hrow.symm) (List.cons_ne_nil _ _)
    exact (if_neg hop).trans hbase

/-- The escape byte and a prefixed opcode decode to its instruction whatever follows. -/
theorem decodeBytes_prefixed {i : Instr} {op : Byte} (ho : i.form.opcode = (.prefixed, op)) (rest : List Byte) :
    decodeBytes (0xCB#8 :: op :: rest) = .ok i := by
  have hrow : rowOf .prefixed op = i := by simpa [ho] using rowOf_opcode i
  exact congrArg Except.ok hrow

theorem decodeBytes_encode {i : Instr} (hw : i.wellFormed = true) {rest : List Byte}
    (hrest : i ≠ .prefixCB ∨ rest = []) : decodeBytes (encode i ++ rest) = .ok i := by
  rcases ho : i.form.opcode with ⟨tbl, op⟩
  cases tbl with
  | base => rw [encode_of_base ho]; exact decodeBytes_base hw ho hrest
  | prefixed => rw [encode_of_prefixed ho]; exact decodeBytes_prefixed ho rest

/-! ### The obligations -/

/-- Settles O43: rows and opcodes are inverse to each other, and only PREFIX reads a byte that follows it. -/
theorem decodeAndEncodeAgree : Obligations.DecodeAndEncodeAgree := by
  refine ⟨fun i hw => ⟨?_, fun hne rest => decodeBytes_encode hw (.inl hne)⟩, fun op i h => ?_, fun op => ?_⟩
  · simpa using decodeBytes_encode hw (.inr rfl)
  · obtain ⟨-, rfl, -⟩ := decodeBase_ok h
    exact encode_of_base (opcode_rowOf .base op)
  · exact encode_of_prefixed (opcode_rowOf .prefixed op)

/-- Settles O42: the rows that are no instruction are those of the eleven bytes. -/
theorem decodeFailsExactlyOnUndefinedBytes : Obligations.DecodeFailsExactlyOnUndefinedBytes := by
  refine ⟨fun op h => decodeBase_of_undefined h, fun op h => ?_, rfl⟩
  have hok := decodeBase_of_not_undefined h
  obtain ⟨-, -, hw⟩ := decodeBase_ok hok
  exact ⟨_, hok, hw⟩

/-- Settles O44: map and rules are both finite tables of 256 entries, so they are compared entry by entry. -/
theorem decodeMapsFollowTheOrderedRules : Obligations.DecodeMapsFollowTheOrderedRules := by
  unfold Obligations.DecodeMapsFollowTheOrderedRules
  decide

/-- Settles O46: each sample word is evaluated. -/
theorem sampleWordsDecode : Obligations.SampleWordsDecode := by
  unfold Obligations.SampleWordsDecode
  decide

end Sys2Proof.Machine

/-! PROOFS. `exec` cycle by cycle: an instruction runs line `k` of its form's schedule in cycle `k`; and the obligations
of 41_load8.md to 47_prefixed.md that give each cycle's whole next state in the schedule's own terms. -/

namespace Sys2Proof.Machine

/-! ### One cycle of a schedule -/

/-- A schedule has as many lines as its form has machine cycles, R11. -/
theorem formLines_length (f : Form) : (formLines f).length = f.cycles.toNat := by
  cases f <;> rfl

/-- Line `k` of a schedule, counted from 0, is the one that cycle index `k + 1` names. -/
theorem lineAt_formLines {f : Form} {k : Nat} {line : Line} (h : (formLines f)[k]? = some line) :
    lineAt (formLines f) (BitVec.ofNat 3 (k + 1)) = some line := by
  have hk : k < f.cycles.toNat := by
    rw [← formLines_length]
    exact (List.getElem?_eq_some_iff.mp h).1
  have hi : (BitVec.ofNat 3 (k + 1)).toNat = k + 1 := by
    rw [BitVec.toNat_ofNat]
    exact Nat.mod_eq_of_lt (by omega)
  have hne : BitVec.ofNat 3 (k + 1) ≠ 0 := fun h0 => by simp [h0] at hi
  rw [lineAt, if_neg hne, hi]
  exact h

/-- An instruction whose form has a line for the record's cycle index runs it. -/
theorem exec_of_line {i : Instr} {s : State} {r : Record} {line : Line} (hr : s.record = some r)
    (hl : lineAt (formLines i.form) r.i = some line) : exec i s = .next (line r s) := by
  have hdef : ∀ op, i.form ≠ .undefined op := fun op h => by
    rw [h, lineAt] at hl
    split at hl <;> cases hl
  rw [exec_eq_form, runForm_defined hdef]
  exact runLines_of_line hr hl

/-- In cycle `k` an instruction runs line `k` of a list of lines, whatever the state: R86. -/
def RunsLines (i : Instr) (lines : List Line) : Prop :=
  ∀ (s : State) (r : Record), s.record = some r →
    lines.zipIdx.Forall fun x => r.i = BitVec.ofNat 3 (x.2 + 1) → exec i s = .next (x.1 r s)

/-- Every instruction runs its form's schedule. -/
theorem runsLines_form (i : Instr) : RunsLines i (formLines i.form) := by
  intro s r hr
  refine List.forall_iff_forall_mem.mpr fun ⟨line, k⟩ hx hi => exec_of_line hr ?_
  rw [hi]
  exact lineAt_formLines (List.mem_zipIdx_iff_getElem?.mp hx)

/-- All that the encoding, the lengths and the schedule say of an instruction of the base table. -/
theorem base_instr {i : Instr} {f : Form} {op : Byte} {lines : List Line} (hf : i.form = f)
    (ho : f.opcode = (.base, op)) (hl : formLines f = lines) :
    encode i = [op] ∧ i.form.bytes = f.bytes ∧ i.form.cycles = f.cycles ∧ RunsLines i lines := by
  subst hf hl
  exact ⟨encode_of_base ho, rfl, rfl, runsLines_form i⟩

/-- The same of an instruction of the prefixed table. -/
theorem prefixed_instr {i : Instr} {f : Form} {op : Byte} {lines : List Line} (hf : i.form = f)
    (ho : f.opcode = (.prefixed, op)) (hl : formLines f = lines) :
    encode i = [0xCB#8, op] ∧ i.form.bytes = f.bytes ∧ i.form.cycles = f.cycles ∧ RunsLines i lines := by
  subst hf hl
  exact ⟨encode_of_prefixed ho, rfl, rfl, runsLines_form i⟩

/-! ### The condition of a conditional instruction -/

/-- A condition that fails changes the count of remaining cycles and nothing else of the record: R87, R200. -/
theorem shorten_eq (s : State) (cc : Cond) (short : BitVec 3) (r : Record) :
    shorten s cc short r = { r with remaining := if s.cond cc then r.remaining else short } := by
  unfold shorten
  split <;> rfl

theorem immLoUnless_eq (cc : Cond) (short : BitVec 3) :
    immLoUnless cc short = fun r s => s.imm8.2.setRecord
      { r with lo := s.imm8.1, remaining := if s.cond cc then r.remaining else short } := by
  funext r s
  rw [immLoUnless, shorten_eq]

theorem immEUnless_eq (cc : Cond) (short : BitVec 3) :
    immEUnless cc short = fun r s => s.imm8.2.setRecord
      { r with e := s.imm8.1, remaining := if s.cond cc then r.remaining else short } := by
  funext r s
  rw [immEUnless, shorten_eq]

/-! ### The obligations

Each clause is the schedule of its form, read by `base_instr` or `prefixed_instr`. -/

/-- Settles O11: the schedules of the three load forms. -/
theorem loadRegister : Obligations.LoadRegister :=
  ⟨fun _ _ _ hf => base_instr hf rfl rfl, fun _ _ hf => base_instr hf rfl rfl, fun _ _ hf => base_instr hf rfl rfl⟩

/-- Settles O12: the schedules of the two store forms. -/
theorem storeToHL : Obligations.StoreToHL :=
  ⟨fun _ _ hf => base_instr hf rfl rfl, base_instr rfl rfl rfl⟩

/-- Settles O13: the schedules of the ten indirect forms. -/
theorem accumulatorIndirectLoadsAndStores : Obligations.AccumulatorIndirectLoadsAndStores :=
  ⟨base_instr rfl rfl rfl, base_instr rfl rfl rfl, base_instr rfl rfl rfl, base_instr rfl rfl rfl,
    base_instr rfl rfl rfl, base_instr rfl rfl rfl, base_instr rfl rfl rfl, base_instr rfl rfl rfl,
    base_instr rfl rfl rfl, base_instr rfl rfl rfl⟩

/-- Settles O14: the schedules of the four absolute forms. -/
theorem loadAndStoreAccumulatorAbsolute : Obligations.LoadAndStoreAccumulatorAbsolute :=
  ⟨base_instr rfl rfl rfl, base_instr rfl rfl rfl, base_instr rfl rfl rfl, base_instr rfl rfl rfl⟩

/-- Settles O15: the schedules of the three forms. -/
theorem loadPairAndStackPointer : Obligations.LoadPairAndStackPointer :=
  ⟨fun _ _ hf => base_instr hf rfl rfl, base_instr rfl rfl rfl, base_instr rfl rfl rfl⟩

/-- Settles O16: the schedules of PUSH and POP. -/
theorem pushAndPopPairs : Obligations.PushAndPopPairs :=
  ⟨fun _ _ hf => base_instr hf rfl rfl, fun _ _ hf => base_instr hf rfl rfl⟩

/-- Settles O23: the schedules of the four rotates. -/
theorem accumulatorRotates : Obligations.AccumulatorRotates :=
  ⟨base_instr rfl rfl rfl, base_instr rfl rfl rfl, base_instr rfl rfl rfl, base_instr rfl rfl rfl⟩

/-- Settles O27: the schedules of the three jumps; the condition of JP cc is in `immLoUnless_eq`. -/
theorem absoluteJumps : Obligations.AbsoluteJumps :=
  ⟨base_instr rfl rfl rfl,
    fun _ cc hf => base_instr hf rfl (congrArg (fun line => [line, immHi, idle, jumpHiLo]) (immLoUnless_eq cc 3)),
    base_instr rfl rfl rfl⟩

/-- Settles O30: the schedules of the three returns. -/
theorem returns : Obligations.Returns :=
  ⟨base_instr rfl rfl rfl, fun _ _ hf => base_instr hf rfl rfl, base_instr rfl rfl rfl⟩

/-- Settles O31: the schedules of the six one-cycle forms. -/
theorem systemInstructions : Obligations.SystemInstructions :=
  ⟨base_instr rfl rfl rfl, base_instr rfl rfl rfl, base_instr rfl rfl rfl, base_instr rfl rfl rfl,
    base_instr rfl rfl rfl, base_instr rfl rfl rfl⟩

/-- Settles O32: the schedules of the register form and the (HL) form. -/
theorem prefixedRotatesAndShifts : Obligations.PrefixedRotatesAndShifts :=
  ⟨fun _ _ _ hf => prefixed_instr hf rfl rfl, fun _ _ hf => prefixed_instr hf rfl rfl⟩

/-- Settles O33: the schedules of the register form and the (HL) form. -/
theorem bitTests : Obligations.BitTests :=
  ⟨fun _ _ _ hf => prefixed_instr hf rfl rfl, fun _ _ hf => prefixed_instr hf rfl rfl⟩

end Sys2Proof.Machine

/-! PROOFS. Bytes, words and the result functions of 43_alu8.md, 44_alu16.md and 47_prefixed.md over the integers and bit
by bit, and the obligations that say them. -/

namespace Sys2Proof.Machine

/-! ### Masks and fields as numbers -/

/-- A mask of `w` low bits is the remainder by `2 ^ w`. -/
theorem toNat_and_lowBits {n w : Nat} (v m : BitVec n) (hm : m.toNat = 2 ^ w - 1) :
    (v &&& m).toNat = v.toNat % 2 ^ w := by
  rw [BitVec.toNat_and, hm, Nat.and_two_pow_sub_one_eq_mod]

theorem lowNibble_eq (v : Byte) : lowNibble v = v.toNat % 16 := toNat_and_lowBits (w := 4) v _ rfl

/-- A test of the low nibble is a test of the remainder by 16. -/
theorem and_lowMask_beq (v m : Byte) : (v &&& 0x0F#8 == m) = (v.toNat % 16 == m.toNat) := by
  have hmask : (v &&& 0x0F#8).toNat = v.toNat % 16 := toNat_and_lowBits (w := 4) v _ rfl
  rw [← hmask, Bool.eq_iff_iff, beq_iff_eq, beq_iff_eq, BitVec.toNat_inj]

theorem beq_zero_iff (v : Byte) : (v == 0#8) = true ↔ v.toNat = 0 := by
  rw [beq_iff_eq, ← BitVec.toNat_inj]
  rfl

theorem getLsbD_bit8 (b : Bool) (j : Nat) : (bit8 b).getLsbD j = (b && decide (j = 0)) := by
  cases b <;> simp [bit8]

/-! ### Accumulator operations -/

theorem add8_formula (a b : Byte) (cin : Bool) :
    (add8 a b cin).v.toNat = (a.toNat + b.toNat + cin.toNat) % 256 ∧
    ((add8 a b cin).z = true ↔ (add8 a b cin).v.toNat = 0) ∧ (add8 a b cin).n = false ∧
    ((add8 a b cin).h = true ↔ a.toNat % 16 + b.toNat % 16 + cin.toNat > 15) ∧
    ((add8 a b cin).c = true ↔ a.toNat + b.toNat + cin.toNat > 255) := by
  refine ⟨BitVec.toNat_ofNat _ _, beq_zero_iff _, rfl, ?_, decide_eq_true_iff⟩
  rw [← lowNibble_eq, ← lowNibble_eq]
  exact decide_eq_true_iff

theorem sub8_formula (a b : Byte) (cin : Bool) :
    ((sub8 a b cin).v.toNat + b.toNat + cin.toNat) % 256 = a.toNat ∧
    ((sub8 a b cin).z = true ↔ (sub8 a b cin).v.toNat = 0) ∧ (sub8 a b cin).n = true ∧
    ((sub8 a b cin).h = true ↔ a.toNat % 16 < b.toNat % 16 + cin.toNat) ∧
    ((sub8 a b cin).c = true ↔ a.toNat < b.toNat + cin.toNat) := by
  have hv : ((sub8 a b cin).v.toNat : Int) = ((a.toNat : Int) - b.toNat - cin.toNat) % 256 := by
    change ((BitVec.ofInt 8 _).toNat : Int) = _
    rw [BitVec.toNat_ofInt]
    omega
  refine ⟨by omega, beq_zero_iff _, rfl, ?_, ?_⟩
  · rw [← lowNibble_eq, ← lowNibble_eq]
    exact decide_eq_true_iff.trans (by omega)
  · exact decide_eq_true_iff.trans (by omega)

/-- Settles O18: one formula for the sum and one for the difference, at each carry. -/
theorem accumulatorOperationFormulas : Obligations.AccumulatorOperationFormulas := by
  refine ⟨fun o a b carry => ⟨?_, ?_⟩, fun a b carry => ⟨fun k _ => ?_, ?_⟩⟩
  · rintro (rfl | rfl)
    · exact add8_formula a b false
    · exact add8_formula a b carry
  · rintro (rfl | rfl | rfl)
    · exact sub8_formula a b false
    · exact sub8_formula a b carry
    · exact sub8_formula a b false
  · exact ⟨BitVec.getLsbD_and, BitVec.getLsbD_xor, BitVec.getLsbD_or⟩
  · rintro o (rfl | rfl | rfl) <;> exact ⟨beq_iff_eq, rfl, rfl, rfl⟩

theorem alu_eq (s : State) (o : AluOp) (x : Byte) :
    s.alu o x = ({ s with a := if o = AluOp.cp then s.a else (aluOut o s.a x s.flagC).v }).setZNHC
      (aluOut o s.a x s.flagC).z (aluOut o s.a x s.flagC).n (aluOut o s.a x s.flagC).h (aluOut o s.a x s.flagC).c := by
  cases o <;> rfl

/-- Settles O17: the schedules, with the operation written out by `alu_eq`. -/
theorem accumulatorOperations : Obligations.AccumulatorOperations :=
  ⟨fun _ o src hf => base_instr hf rfl (congrArg (fun line => [line]) (funext₂ fun _ s => alu_eq s o (s.reg src))),
    fun _ o hf => base_instr hf rfl (congrArg (fun line => [readT atHL, line]) (funext₂ fun r s => alu_eq s o r.t)),
    fun _ o hf => base_instr hf rfl (congrArg (fun line => [immN, line]) (funext₂ fun r s => alu_eq s o r.n))⟩

theorem incFlags_eq (s : State) (x : Byte) :
    s.incFlags x = ((s.setFlagZ (x + 1#8 == 0x00#8)).setFlagN false).setFlagH (x.toNat % 16 == 15) := by
  rw [State.incFlags, and_lowMask_beq]
  rfl

theorem decFlags_eq (s : State) (x : Byte) :
    s.decFlags x = ((s.setFlagZ (x - 1#8 == 0x00#8)).setFlagN true).setFlagH (x.toNat % 16 == 0) := by
  rw [State.decFlags, and_lowMask_beq]
  rfl

/-- Settles O19: the schedules, with the flags written out. -/
theorem incrementAndDecrementRegister : Obligations.IncrementAndDecrementRegister :=
  ⟨fun _ _ hf => base_instr hf rfl (congrArg (fun line => [line]) (funext₂ fun _ _ => incFlags_eq _ _)),
    fun _ _ hf => base_instr hf rfl (congrArg (fun line => [line]) (funext₂ fun _ _ => decFlags_eq _ _))⟩

/-- Settles O20: the schedules, with the flags written out. -/
theorem incrementAndDecrementMemory : Obligations.IncrementAndDecrementMemory :=
  ⟨base_instr (i := .inc_mHL) rfl rfl
      (congrArg (fun line => [readT atHL, line, idle])
        (funext₂ fun r s => incFlags_eq (s.memWrite s.hl (r.t + 1#8)) r.t)),
    base_instr (i := .dec_mHL) rfl rfl
      (congrArg (fun line => [readT atHL, line, idle])
        (funext₂ fun r s => decFlags_eq (s.memWrite s.hl (r.t - 1#8)) r.t))⟩

/-! ### DAA and CPL -/

/-- DAA after an addition, over the integers: R171. -/
theorem daaOut_add (a : Byte) (h c : Bool) :
    let high := c || decide (153 < a.toNat)
    let a1 := if high then BitVec.ofNat 8 (a.toNat + 96) else a
    let a2 := if h || decide (9 < a1.toNat % 16) then BitVec.ofNat 8 (a1.toNat + 6) else a1
    daaOut a false h c = (a2, high) := by
  simp only [BitVec.ofNat_add, BitVec.ofNat_toNat, BitVec.setWidth_eq, ← lowNibble_eq]
  rfl

/-- DAA after a subtraction, over the integers: R171. -/
theorem daaOut_sub (a : Byte) (h c : Bool) :
    let a1 := if c then BitVec.ofNat 8 (a.toNat + 256 - 96) else a
    let a2 := if h then BitVec.ofNat 8 (a1.toNat + 256 - 6) else a1
    daaOut a true h c = (a2, c) := by
  have hsub (x : Byte) (n : Nat) (hn : n < 256) : BitVec.ofNat 8 (x.toNat + 256 - n) = x - BitVec.ofNat 8 n := by
    apply BitVec.eq_of_toNat_eq
    rw [BitVec.toNat_sub, BitVec.toNat_ofNat, BitVec.toNat_ofNat]
    omega
  simp only [hsub _ 96 (by decide), hsub _ 6 (by decide)]
  rfl

theorem cpl_eq (s : State) : s.cpl = (({ s with a := ~~~s.a }).setFlagN true).setFlagH true := by
  rw [State.cpl, show 0xFF#8 = BitVec.allOnes 8 from rfl, BitVec.xor_allOnes]

/-- Settles O22: the schedules, and the correction of DAA after an addition and after a subtraction. -/
theorem accumulatorAndFlagUnaries : Obligations.AccumulatorAndFlagUnaries :=
  ⟨base_instr rfl rfl rfl,
    base_instr (i := .cpl) rfl rfl (congrArg (fun line => [line]) (funext₂ fun _ s => cpl_eq s)),
    base_instr rfl rfl rfl, base_instr rfl rfl rfl, fun a h c => ⟨daaOut_add a h c, daaOut_sub a h c⟩⟩

/-- The BCD byte of a number below 100. -/
def bcd (n : Nat) : Byte := BitVec.ofNat 8 (16 * (n / 10) + n % 10)

/-- DAA sees of an addition only the sums `p` of the tens and `q` of the units. -/
theorem daaOut_digitSums : ∀ p < 19, ∀ q < 19,
    daaOut (BitVec.ofNat 8 (16 * p + q)) false (decide (15 < q)) (decide (255 < 16 * p + q)) =
      (bcd ((10 * p + q) % 100), decide (100 ≤ 10 * p + q)) := by
  decide

/-- DAA sees of a subtraction only the differences of the tens and of the units, each raised by 9 to `p` and `q`. -/
theorem daaOut_digitDifferences : ∀ p < 19, ∀ q < 19,
    daaOut (BitVec.ofNat 8 (16 * p + q + 103)) true (decide (q < 9)) (decide (16 * p + q < 153)) =
      (bcd ((10 * p + q + 1) % 100), decide (10 * p + q < 99)) := by
  decide

theorem bcd_toNat {n : Nat} (hn : n < 100) : (bcd n).toNat = 16 * (n / 10) + n % 10 := by
  rw [bcd, BitVec.toNat_ofNat]
  omega

theorem daaOut_add_bcd {x y : Nat} (hx : x < 100) (hy : y < 100) :
    let out := add8 (bcd x) (bcd y) false
    daaOut out.v out.n out.h out.c = (bcd ((x + y) % 100), decide (100 ≤ x + y)) := by
  intro out
  obtain ⟨hv, -, hn, hh, hc⟩ := add8_formula (bcd x) (bcd y) false
  rw [bcd_toNat hx, bcd_toNat hy, Bool.toNat_false] at hv hh hc
  have h := daaOut_digitSums (x / 10 + y / 10) (by omega) (x % 10 + y % 10) (by omega)
  have ev : out.v = BitVec.ofNat 8 (16 * (x / 10 + y / 10) + (x % 10 + y % 10)) := by
    apply BitVec.eq_of_toNat_eq
    rw [hv, BitVec.toNat_ofNat]
    omega
  have eh : out.h = decide (15 < x % 10 + y % 10) := by
    rw [Bool.eq_iff_iff, hh, decide_eq_true_iff]
    omega
  have ec : out.c = decide (255 < 16 * (x / 10 + y / 10) + (x % 10 + y % 10)) := by
    rw [Bool.eq_iff_iff, hc, decide_eq_true_iff]
    omega
  have hsum : 10 * (x / 10 + y / 10) + (x % 10 + y % 10) = x + y := by omega
  rw [ev, hn, eh, ec, h, hsum]

theorem daaOut_sub_bcd {x y : Nat} (hx : x < 100) (hy : y < 100) :
    let out := sub8 (bcd x) (bcd y) false
    daaOut out.v out.n out.h out.c = (bcd ((x + 100 - y) % 100), decide (x < y)) := by
  intro out
  obtain ⟨hv, -, hn, hh, hc⟩ := sub8_formula (bcd x) (bcd y) false
  rw [bcd_toNat hx, bcd_toNat hy, Bool.toNat_false] at hv hh hc
  have h := daaOut_digitDifferences (x / 10 + 9 - y / 10) (by omega) (x % 10 + 9 - y % 10) (by omega)
  have ev : out.v = BitVec.ofNat 8 (16 * (x / 10 + 9 - y / 10) + (x % 10 + 9 - y % 10) + 103) := by
    apply BitVec.eq_of_toNat_eq
    rw [BitVec.toNat_ofNat]
    change (sub8 (bcd x) (bcd y) false).v.toNat = _
    omega
  have eh : out.h = decide (x % 10 + 9 - y % 10 < 9) := by
    rw [Bool.eq_iff_iff, hh, decide_eq_true_iff]
    omega
  have ec : out.c = decide (16 * (x / 10 + 9 - y / 10) + (x % 10 + 9 - y % 10) < 153) := by
    rw [Bool.eq_iff_iff, hc, decide_eq_true_iff]
    omega
  have hdiff : 10 * (x / 10 + 9 - y / 10) + (x % 10 + 9 - y % 10) + 1 = x + 100 - y := by omega
  have hlt : (10 * (x / 10 + 9 - y / 10) + (x % 10 + 9 - y % 10) < 99) = (x < y) := by
    rw [eq_iff_iff]
    omega
  rw [ev, hn, eh, ec, h, hdiff]
  simp only [hlt]

/-- Settles O21: by the digit sums and digit differences that DAA corrects. -/
theorem daaAdjustsDecimalAdditionAndSubtraction : Obligations.DaaAdjustsDecimalAdditionAndSubtraction :=
  fun _ _ hx hy => ⟨daaOut_add_bcd hx hy, daaOut_sub_bcd hx hy⟩

/-! ### Rotates and shifts -/

/-- A left form shifts by one, puts `b` in at bit 0 and bit 7 into the carry. -/
theorem rotOut_left {o : RotOp} {x : Byte} {carry b : Bool} (h : rotOut o x carry = (x <<< 1 ||| bit8 b, x.getLsbD 7)) :
    ((rotOut o x carry).2 = x.getLsbD 7 ∧ ∀ k < 7, (rotOut o x carry).1.getLsbD (k + 1) = x.getLsbD k) ∧
      (rotOut o x carry).1.getLsbD 0 = b := by
  rw [h]
  refine ⟨⟨rfl, fun k hk => ?_⟩, ?_⟩
  · rw [BitVec.getLsbD_or, BitVec.getLsbD_shiftLeft, getLsbD_bit8]
    simp [show k + 1 < 8 by omega]
  · rw [BitVec.getLsbD_or, BitVec.getLsbD_shiftLeft, getLsbD_bit8]
    simp

/-- A right form shifts by one, puts `b` in at bit 7 and bit 0 into the carry. -/
theorem rotOut_right {o : RotOp} {x : Byte} {carry b : Bool}
    (h : rotOut o x carry = (x >>> 1 ||| bit8 b <<< 7, x.getLsbD 0)) :
    ((rotOut o x carry).2 = x.getLsbD 0 ∧ ∀ k < 7, (rotOut o x carry).1.getLsbD k = x.getLsbD (k + 1)) ∧
      (rotOut o x carry).1.getLsbD 7 = b := by
  rw [h]
  refine ⟨⟨rfl, fun k hk => ?_⟩, ?_⟩
  · rw [BitVec.getLsbD_or, BitVec.getLsbD_shiftLeft, BitVec.getLsbD_ushiftRight]
    simp [hk, Nat.add_comm]
  · rw [BitVec.getLsbD_or, BitVec.getLsbD_shiftLeft, getLsbD_bit8, BitVec.getLsbD_ushiftRight]
    simp

theorem and_bit7 : ∀ x : Byte, x &&& 0x80#8 = bit8 (x.getLsbD 7) <<< 7 := by
  decide

/-- SWAP moves each bit by four places, around the byte. -/
theorem getLsbD_swap (x : Byte) {k : Nat} (hk : k < 8) :
    (x <<< 4 ||| x >>> 4).getLsbD k = x.getLsbD ((k + 4) % 8) := by
  rw [BitVec.getLsbD_or, BitVec.getLsbD_shiftLeft, BitVec.getLsbD_ushiftRight]
  by_cases hk4 : k < 4
  · simp [hk4, Nat.mod_eq_of_lt (show k + 4 < 8 by omega), Nat.add_comm]
  · simp [hk, hk4, show (k + 4) % 8 = k - 4 by omega, BitVec.getLsbD_of_ge x (4 + k) (by omega)]

/-- Settles O24: a left form and a right form once, at the bit that each puts in. -/
theorem rotatesAndShiftsByBits : Obligations.RotatesAndShiftsByBits := by
  intro x carry
  have rlc := rotOut_left (o := .rlc) (x := x) (carry := carry) rfl
  have rl := rotOut_left (o := .rl) (x := x) (carry := carry) rfl
  have sla := rotOut_left (o := .sla) (x := x) (carry := carry) (b := false) (congrArg (·, _) BitVec.or_zero.symm)
  have rrc := rotOut_right (o := .rrc) (x := x) (carry := carry) rfl
  have rr := rotOut_right (o := .rr) (x := x) (carry := carry) rfl
  have sra := rotOut_right (o := .sra) (x := x) (carry := carry) (congrArg (x >>> 1 ||| ·, _) (and_bit7 x))
  have srl := rotOut_right (o := .srl) (x := x) (carry := carry) (b := false) (congrArg (·, _) BitVec.or_zero.symm)
  refine ⟨?_, ?_, rlc.2, rl.2, sla.2, rrc.2, rr.2, sra.2, srl.2, rfl, fun k hk => getLsbD_swap x hk⟩
  · rintro o (rfl | rfl | rfl)
    exacts [rlc.1, rl.1, sla.1]
  · rintro o (rfl | rfl | rfl | rfl)
    exacts [rrc.1, rr.1, sra.1, srl.1]

/-! ### Bit reset and set -/

theorem getLsbD_resBit (x : Byte) (k : BitVec 3) (j : Nat) :
    (resBit x k).getLsbD j = if j = k.toNat then false else x.getLsbD j := by
  have hres : resBit x k = writeBit x k.toNat false := by
    rw [resBit, show 0xFF#8 = BitVec.allOnes 8 from rfl, BitVec.allOnes_xor]
    rfl
  rw [hres, getLsbD_writeBit x k.isLt]

theorem getLsbD_setBit (x : Byte) (k : BitVec 3) (j : Nat) :
    (setBit x k).getLsbD j = if j = k.toNat then true else x.getLsbD j :=
  getLsbD_writeBit x k.isLt true j

/-- Settles O34: the schedules, and the bits of the two masks. -/
theorem bitResetAndSet : Obligations.BitResetAndSet :=
  ⟨fun _ _ _ hf => prefixed_instr hf rfl rfl, fun _ _ hf => prefixed_instr hf rfl rfl,
    fun _ _ _ hf => prefixed_instr hf rfl rfl, fun _ _ hf => prefixed_instr hf rfl rfl,
    fun x k j _ => ⟨getLsbD_resBit x k j, getLsbD_setBit x k j⟩⟩

/-! ### 16-bit additions -/

theorem addHLFlags_eq (s : State) (x y : Word) :
    s.addHLFlags x y = ((s.setFlagN false).setFlagH (decide (x.toNat % 4096 + y.toNat % 4096 > 4095))).setFlagC
      (decide (x.toNat + y.toNat > 65535)) := by
  have hmask (v : Word) : (v &&& 0x0FFF#16).toNat = v.toNat % 4096 := toNat_and_lowBits (w := 12) v _ rfl
  rw [State.addHLFlags, hmask, hmask]

/-- Settles O25: the schedules, with the flags of ADD HL written out. -/
theorem sixteenBitArithmetic : Obligations.SixteenBitArithmetic :=
  ⟨fun _ _ hf => base_instr hf rfl rfl, fun _ _ hf => base_instr hf rfl rfl,
    fun _ dd hf => base_instr hf rfl
      (congrArg (fun line => [idle, line]) (funext₂ fun _ s => addHLFlags_eq _ s.hl (s.pair dd)))⟩

/-- A word plus a sign-extended byte, over the integers: R193, R204. -/
theorem add_sext16 (v : Word) (e : Byte) : v + sext16 e = BitVec.ofInt 16 (v.toNat + e.toInt) := by
  rw [BitVec.ofInt_add, BitVec.ofInt_natCast, BitVec.ofNat_toNat, BitVec.setWidth_eq]
  rfl

theorem spPlusEH_eq (sp : Word) (e : Byte) : spPlusEH sp e = decide (sp.toNat % 16 + e.toNat % 16 > 15) := by
  have hsp : (sp &&& 0x000F#16).toNat = sp.toNat % 16 := toNat_and_lowBits (w := 4) sp _ rfl
  have he : (e &&& 0x0F#8).toNat = e.toNat % 16 := toNat_and_lowBits (w := 4) e _ rfl
  rw [spPlusEH, hsp, he]

theorem spPlusEC_eq (sp : Word) (e : Byte) : spPlusEC sp e = decide (sp.toNat % 256 + e.toNat > 255) := by
  have hsp : (sp &&& 0x00FF#16).toNat = sp.toNat % 256 := toNat_and_lowBits (w := 8) sp _ rfl
  have he : e &&& 0xFF#8 = e := BitVec.and_allOnes
  rw [spPlusEC, hsp, he]

theorem linesAddSPE_eq : linesAddSPE = [immE, idle, idle, fun r s =>
    ({ s with sp := BitVec.ofInt 16 (s.sp.toNat + r.e.toInt) }).setZNHC false false
      (decide (s.sp.toNat % 16 + r.e.toNat % 16 > 15)) (decide (s.sp.toNat % 256 + r.e.toNat > 255))] := by
  simp only [linesAddSPE, spPlusE, add_sext16, spPlusEH_eq, spPlusEC_eq]

theorem linesLdHLSPE_eq : linesLdHLSPE = [immE, idle, fun r s =>
    (s.setHL (BitVec.ofInt 16 (s.sp.toNat + r.e.toInt))).setZNHC false false
      (decide (s.sp.toNat % 16 + r.e.toNat % 16 > 15)) (decide (s.sp.toNat % 256 + r.e.toNat > 255))] := by
  simp only [linesLdHLSPE, spPlusE, add_sext16, spPlusEH_eq, spPlusEC_eq]

/-- Settles O26: the schedules, with the helper of the displacement written out. -/
theorem stackPointerPlusDisplacement : Obligations.StackPointerPlusDisplacement :=
  ⟨base_instr (i := .add_SP_e) rfl rfl linesAddSPE_eq, base_instr (i := .ld_HL_SPe) rfl rfl linesLdHLSPE_eq⟩

theorem jumpRelative_eq : jumpRelative = fun r s => { s with pc := BitVec.ofInt 16 (s.pc.toNat + r.e.toInt) } := by
  funext r s
  rw [jumpRelative, add_sext16]

/-- Settles O28: the schedules, with the target over the integers. -/
theorem relativeJumps : Obligations.RelativeJumps :=
  ⟨base_instr (i := .jr_e) rfl rfl (congrArg (fun line => [immE, idle, line]) jumpRelative_eq),
    fun _ cc hf => base_instr hf rfl
      (congrArg₂ (fun first last => [first, idle, last]) (immEUnless_eq cc 2) jumpRelative_eq)⟩

/-- The restart address is eight times the field: R79. -/
theorem restartAddress_eq : ∀ ttt : BitVec 3, restartAddress ttt = BitVec.ofNat 16 (8 * ttt.toNat) := by
  decide

/-- Settles O29: the schedules of the three forms. -/
theorem callsAndRestarts : Obligations.CallsAndRestarts :=
  ⟨base_instr rfl rfl rfl,
    fun _ cc hf => base_instr hf rfl
      (congrArg (fun line => [line, immHi, idle, pushPCHi, pushPCLo, jumpHiLo]) (immLoUnless_eq cc 3)),
    fun _ ttt hf => base_instr hf rfl
      (congrArg (fun target => [idle, pushPCHi, pushPCLo, fun _ s => { s with pc := target }]) (restartAddress_eq ttt))⟩

end Sys2Proof.Machine

/-! PROOFS. The accessors of the state: registers and pairs, conditions, bus reads, immediates and the stack; and the
obligations of 10_state.md, 20_memory.md and 45_control.md R200 that say them. -/

namespace Sys2Proof.Machine

/-! ### Words and their halves -/

theorem hi8_toNat (v : Word) : (hi8 v).toNat = v.toNat / 256 := by
  rw [hi8, BitVec.extractLsb'_toNat, Nat.shiftRight_eq_div_pow]
  omega

theorem lo8_toNat (v : Word) : (lo8 v).toNat = v.toNat % 256 := by
  rw [lo8, BitVec.extractLsb'_toNat, Nat.shiftRight_zero]

/-- A word is the concatenation of its halves, R8. -/
@[simp] theorem cat16_hi8_lo8 (v : Word) : cat16 (hi8 v) (lo8 v) = v := by
  apply BitVec.eq_of_toNat_eq
  rw [cat16_toNat, hi8_toNat, lo8_toNat]
  omega

/-- AF reads back without the low nibble of F: R22. -/
theorem cat16_hi8_lo8_masked (v : Word) : cat16 (hi8 v) (lo8 v &&& 0xF0#8) = v &&& 0xFFF0#16 := by
  conv_rhs => rw [← cat16_hi8_lo8 v, show 0xFFF0#16 = cat16 (BitVec.allOnes 8) 0xF0#8 from rfl]
  rw [cat16, cat16, cat16, BitVec.and_append, BitVec.and_allOnes]

/-- Settles O7: a pair is its two halves. -/
theorem pairWritesRoundTrip : Obligations.PairWritesRoundTrip := fun _ v =>
  ⟨⟨rfl, cat16_hi8_lo8 v⟩, ⟨rfl, cat16_hi8_lo8 v⟩, ⟨rfl, cat16_hi8_lo8 v⟩, ⟨rfl, cat16_hi8_lo8_masked v⟩⟩

/-! ### Registers, pairs and stack pairs as cells -/

theorem setReg_eq (s : State) (x : Reg8) (v : Byte) : s.setReg x v = { s with
    a := if x = .a then v else s.a
    b := if x = .b then v else s.b
    c := if x = .c then v else s.c
    d := if x = .d then v else s.d
    e := if x = .e then v else s.e
    h := if x = .h then v else s.h
    l := if x = .l then v else s.l } := by
  cases x <;> rfl

theorem setPair_eq (s : State) (dd : Pair) (v : Word) : s.setPair dd v = { s with
    b := if dd = .bc then hi8 v else s.b
    c := if dd = .bc then lo8 v else s.c
    d := if dd = .de then hi8 v else s.d
    e := if dd = .de then lo8 v else s.e
    h := if dd = .hl then hi8 v else s.h
    l := if dd = .hl then lo8 v else s.l
    sp := if dd = .sp then v else s.sp } := by
  cases dd <;> rfl

theorem setStackPair_eq (s : State) (qq : StackPair) (v : Word) : s.setStackPair qq v = { s with
    a := if qq = .af then hi8 v else s.a
    f := if qq = .af then lo8 v &&& 0xF0#8 else s.f
    b := if qq = .bc then hi8 v else s.b
    c := if qq = .bc then lo8 v else s.c
    d := if qq = .de then hi8 v else s.d
    e := if qq = .de then lo8 v else s.e
    h := if qq = .hl then hi8 v else s.h
    l := if qq = .hl then lo8 v else s.l } := by
  cases qq <;> rfl

theorem setPair_pair (s : State) (dd : Pair) (v : Word) : (s.setPair dd v).pair dd = v := by
  cases dd with
  | sp => rfl
  | _ => exact cat16_hi8_lo8 v

/-- Two pairs share no half. -/
theorem setPair_pair_of_ne (s : State) {dd ee : Pair} (h : ee ≠ dd) (v : Word) :
    (s.setPair dd v).pair ee = s.pair ee := by
  rw [setPair_eq]
  cases ee <;> simp [State.pair, State.bc, State.de, State.hl, h.symm]

theorem setStackPair_stackPair (s : State) (qq : StackPair) (v : Word) :
    (s.setStackPair qq v).stackPair qq = if qq = .af then v &&& 0xFFF0#16 else v := by
  cases qq with
  | af => exact cat16_hi8_lo8_masked v
  | _ => exact cat16_hi8_lo8 v

/-- Two stack pairs share no half. -/
theorem setStackPair_stackPair_of_ne (s : State) {qq pp : StackPair} (h : pp ≠ qq) (v : Word) :
    (s.setStackPair qq v).stackPair pp = s.stackPair pp := by
  rw [setStackPair_eq]
  cases pp <;> simp [State.stackPair, State.bc, State.de, State.hl, State.af, h.symm]

/-- Settles O8: each write as an update of every field. -/
theorem registersAreIndependentCells : Obligations.RegistersAreIndependentCells := by
  refine ⟨fun s x y v => ⟨?_, setReg_eq s x v⟩,
    fun s dd v => ⟨setPair_pair s dd v, fun ee h => setPair_pair_of_ne s h v, setPair_eq s dd v⟩,
    fun s qq v => ⟨setStackPair_stackPair s qq v, fun pp h => setStackPair_stackPair_of_ne s h v,
      setStackPair_eq s qq v⟩⟩
  simp only [setReg_reg, eq_comm]

/-- Settles O10: `Cond` is the flag or its negation. -/
theorem conditionsReadZeroAndCarry : Obligations.ConditionsReadZeroAndCarry := fun _ =>
  ⟨.of_eq (Bool.not_eq_true' _), .rfl, .of_eq (Bool.not_eq_true' _), .rfl⟩

/-! ### Bus reads -/

/-- A read of a delegated address is the free draw: R51, R67. -/
theorem readValue_delegated {s : State} {addr : Word} (h : addr ∈ s.delegatedRead) :
    s.readValue addr = Config.readDraw Config.peripheralOrder s.bus s.cycles addr :=
  if_pos (List.contains_iff_mem.mpr h)

/-- Settles O1: the two branches of a bus read. -/
theorem busReadFollowsDelegateThenStore : Obligations.BusReadFollowsDelegateThenStore := fun _ _ =>
  ⟨readValue_delegated, fun h => readValue_plain h, rfl, rfl⟩

/-- A bus write leaves every other address alone, with or without a delegate: R52. -/
theorem memWrite_read_other (s : State) {addr other : Word} (v : Byte) (h : other ≠ addr) :
    Memory.read (s.memWrite addr v).mem other = Memory.read s.mem other := by
  rw [memWrite_mem]
  split
  · rfl
  · exact read_write_other _ _ _ _ h

/-! ### Immediates and the stack -/

/-- `Push8` in full. -/
theorem push8_eq (s : State) (v : Byte) : s.push8 v = { s with
    sp := s.sp - 1
    mem := if s.sp - 1 ∈ s.delegatedWrite then s.mem else Memory.write s.mem (s.sp - 1) v
    bus := .write (s.sp - 1) v :: s.bus } := by
  simp only [State.push8, State.memWrite, List.contains_iff_mem]

/-- Settles O4: each primitive in full. -/
theorem immediateAndStackPrimitives : Obligations.ImmediateAndStackPrimitives := by
  refine ⟨fun s => ⟨rfl, rfl, ?_, fun n => cat16_toNat _ _⟩, fun s v => ⟨push8_eq s v, rfl, rfl⟩⟩
  exact BitVec.toNat_add s.pc 1

/-- A push where no write delegate stands stores the byte: R56. -/
theorem push8_mem_plain {s : State} (h : s.plainWrite (s.sp - 1)) (v : Byte) :
    (s.push8 v).mem = Memory.write s.mem (s.sp - 1) v := by
  rw [push8_eq]
  exact if_neg h

/-- The address two below, by one twice. -/
theorem sub_one_sub_one (v : Word) : v - 1 - 1 = v - 2 := by
  rw [BitVec.sub_sub]
  rfl

theorem sub_two_ne_sub_one (v : Word) : v - 2 ≠ v - 1 := by
  bv_omega

/-- Two pushes of a word where no write delegate stands: the high byte above the low byte, R55, R56. -/
theorem push8_push8_mem {s : State} (hwf : Memory.wf s.mem) (h1 : s.plainWrite (s.sp - 1))
    (h2 : s.plainWrite (s.sp - 2)) (hi lo : Byte) :
    Memory.read ((s.push8 hi).push8 lo).mem (s.sp - 1) = hi ∧
      Memory.read ((s.push8 hi).push8 lo).mem (s.sp - 2) = lo := by
  have hsp : (s.push8 hi).sp - 1 = s.sp - 2 := sub_one_sub_one s.sp
  have hmem : ((s.push8 hi).push8 lo).mem = Memory.write (Memory.write s.mem (s.sp - 1) hi) (s.sp - 2) lo := by
    rw [push8_mem_plain (s := s.push8 hi) (by rwa [hsp]), hsp, push8_mem_plain h1]
  rw [hmem, read_write_other _ _ _ _ (sub_two_ne_sub_one s.sp).symm, read_write_same _ hwf,
    read_write_same _ (write_wf _ hwf _ _)]
  exact ⟨rfl, rfl⟩

/-- Settles O5: the pops read what the pushes stored. -/
theorem pushedWordIsPoppedBack : Obligations.PushedWordIsPoppedBack := by
  intro s v hwf hw1 hw2 hr1 hr2 u
  obtain ⟨hhi, hlo⟩ := push8_push8_mem hwf hw1 hw2 (hi8 v) (lo8 v)
  have hsp : u.sp = s.sp - 2 := sub_one_sub_one s.sp
  have hpop : u.pop8.2.sp = s.sp - 1 := by
    rw [pop8_sp, hsp]
    bv_omega
  have hlo' : u.pop8.1 = lo8 v := by
    rw [pop8_value, hsp, readValue_plain (s := u) hr2]
    exact hlo
  have hhi' : u.pop8.2.pop8.1 = hi8 v := by
    rw [pop8_value, hpop, readValue_plain (s := u.pop8.2) hr1]
    exact hhi
  refine ⟨hsp, hhi, hlo, ?_, ?_⟩
  · rw [hlo', hhi', cat16_hi8_lo8]
  · rw [pop8_sp, hpop]
    bv_omega

end Sys2Proof.Machine

/-! PROOFS. Fetch and Reset: the three outcomes of a fetch, the state that Reset leaves, and the obligations of
30_encoding.md R84 and R88, 20_memory.md section 3 and 70_reset_and_hazards.md section 1 that say them. -/

namespace Sys2Proof.Machine

/-! ### The outcomes of a fetch -/

theorem fetch_fault_of_prefixPending {s : State} (h : s.prefixPending = true) : s.fetch.fault = s.fault := by
  rw [fetch_of_prefixPending h]
  rfl

/-- Without the prefix pending, a byte of the base table gives its record: R84, R88. -/
theorem fetch_of_decodeBase {s : State} {i : Instr} (hp : s.prefixPending = false)
    (hi : decodeBase (s.readValue s.pc) = .ok i) :
    s.fetch = { s.imm8.2 with record := some (newRecord .base (s.readValue s.pc) i s.imm8.2.bus s.cycles) } := by
  have hp' : ¬ s.imm8.2.prefixPending = true := by simpa using hp
  rw [fetch_eq, State.decodeFetched, if_neg hp', hi]
  rfl

/-- Without the prefix pending, one of the eleven bytes raises the decode fault: R88, R260. -/
theorem fetch_of_undefined {s : State} (hp : s.prefixPending = false) (hop : s.readValue s.pc ∈ undefinedBytes) :
    s.fetch = s.imm8.2.raiseDecodeFault (s.readValue s.pc) s.pc := by
  have hp' : ¬ s.imm8.2.prefixPending = true := by simpa using hp
  rw [fetch_eq, State.decodeFetched, if_neg hp', decodeBase_of_undefined hop]

/-- The record of a byte of the base table is that of the instruction it decodes to. -/
theorem newRecord_base_instr {op : Byte} {i : Instr} (h : decodeBase op = .ok i) (bus : List BusAccess) (cycles : Nat) :
    (newRecord .base op i bus cycles).instr = i :=
  (decodeBase_ok h).2.1

/-- The record of an instruction that has just been fetched, R84: none of its cycles has run. -/
structure Record.Fresh (r : Record) : Prop where
  wellFormed : r.instr.wellFormed = true
  len : r.len = r.instr.form.cycles
  remaining : r.remaining = r.instr.form.cycles
  i : r.i = 0

/-- What a fetch leaves in the record and the fault slot: a fresh record, or the fault of the byte read (R88). -/
theorem fetch_record_cases (s : State) :
    (∃ r, s.fetch.record = some r ∧ r.Fresh ∧ s.fetch.fault = s.fault) ∨
    (s.fetch.record = none ∧ s.readValue s.pc ∈ undefinedBytes ∧
      s.fetch.fault = some { opcode := s.readValue s.pc, addr := s.pc }) := by
  cases hp : s.prefixPending with
  | true =>
    rw [fetch_of_prefixPending hp]
    exact .inl ⟨_, rfl, ⟨decodePrefixed_wellFormed _, rfl, rfl, rfl⟩, rfl⟩
  | false =>
    by_cases hop : s.readValue s.pc ∈ undefinedBytes
    · rw [fetch_of_undefined hp hop]
      exact .inr ⟨rfl, hop, rfl⟩
    · have hok := decodeBase_of_not_undefined hop
      rw [fetch_of_decodeBase hp hok]
      exact .inl ⟨_, rfl, ⟨(decodeBase_ok hok).2.2, rfl, rfl, rfl⟩, rfl⟩

/-- Settles O48: the three outcomes. -/
theorem fetchDecodesTheByteAtPC : Obligations.FetchDecodesTheByteAtPC := by
  intro s op read
  refine ⟨fun _ => rfl, fun hp => ⟨_, fetch_of_prefixPending hp, rfl, rfl, rfl, rfl, rfl, rfl⟩, fun hp i hi => ?_,
    fetch_of_undefined⟩
  exact ⟨_, fetch_of_decodeBase hp hi, rfl, rfl, newRecord_base_instr hi _ _, rfl, rfl, rfl⟩

/-! ### A store and the fetch after it -/

/-- Writes to other addresses leave the byte at an address, the delegates and the pending escape as they are. -/
theorem foldl_memWrite_other {addr : Word} (later : List (Word × Byte)) (s : State) (h : ∀ w ∈ later, w.1 ≠ addr) :
    let u := later.foldl (fun x w => x.memWrite w.1 w.2) s
    Memory.read u.mem addr = Memory.read s.mem addr ∧ u.delegatedRead = s.delegatedRead ∧
      u.prefixPending = s.prefixPending := by
  induction later generalizing s with
  | nil => exact ⟨rfl, rfl, rfl⟩
  | cons w later ih =>
    obtain ⟨hw, hlater⟩ := List.forall_mem_cons.mp h
    obtain ⟨hread, hdelegated, hpending⟩ := ih (s.memWrite w.1 w.2) hlater
    exact ⟨hread.trans (memWrite_read_other s w.2 hw.symm), hdelegated, hpending⟩

/-- What a fetch makes of the byte `v` that it reads. -/
theorem fetch_of_readValue {s : State} {v : Byte} (hv : s.readValue s.pc = v) :
    (s.prefixPending = true → ∃ r, s.fetch.record = some r ∧ r.instr = decodePrefixed v ∧ r.op = v) ∧
    (s.prefixPending = false → ∀ i, decodeBase v = .ok i → ∃ r, s.fetch.record = some r ∧ r.instr = i ∧ r.op = v) ∧
    (s.prefixPending = false → v ∈ undefinedBytes → s.fetch.fault = some { opcode := v, addr := s.pc }) := by
  subst hv
  refine ⟨fun hp => ?_, fun hp i hi => ?_, fun hp hop => ?_⟩
  · rw [fetch_of_prefixPending hp]
    exact ⟨_, rfl, rfl, rfl⟩
  · rw [fetch_of_decodeBase hp hi]
    exact ⟨_, rfl, newRecord_base_instr hi _ _, rfl⟩
  · rw [fetch_of_undefined hp hop]
    rfl

/-- Settles O3: the later writes keep the byte, and a plain read gives it. -/
theorem storeIsSeenByTheNextReadAndFetch : Obligations.StoreIsSeenByTheNextReadAndFetch := by
  intro s addr v later hwf hplainR hplainW hlater u atIt
  obtain ⟨hread, hdelegated, hpending⟩ := foldl_memWrite_other later (s.memWrite addr v) hlater
  have hmem : Memory.read u.mem addr = v := by
    rw [hread, memWrite_plain hplainW]
    exact read_write_same _ hwf _ _
  have hplain : u.plainRead addr := by
    rw [State.plainRead, hdelegated]
    exact hplainR
  have hat : atIt.readValue atIt.pc = v := (readValue_plain (s := atIt) hplain).trans hmem
  have hpending : atIt.prefixPending = s.prefixPending := hpending
  have hfetch := fetch_of_readValue hat
  rw [hpending] at hfetch
  exact ⟨(readValue_plain hplain).trans hmem, hat, hfetch⟩

/-! ### The invariant after a fetch and after Reset -/

theorem cycles_ne_zero {i : Instr} (hw : i.wellFormed = true) : i.form.cycles ≠ 0 := by
  intro h
  cases hf : i.form with
  | undefined op => exact form_of_wellFormed hw op hf
  | _ => simp [hf, Form.cycles] at h

theorem Record.Fresh.wf {r : Record} (h : r.Fresh) : r.wf := by
  refine ⟨h.wellFormed, h.len, h.remaining ▸ cycles_ne_zero h.wellFormed, .inl ?_⟩
  rw [h.i, h.remaining, h.len]
  exact Nat.zero_add _

/-- A fetch with no fault recorded leaves a well-formed record, or a fault of an undefined byte just before PC. -/
theorem fetch_recordOrFault {s : State} (hf : s.fault = none) : s.fetch.recordOrFault := by
  obtain ⟨r, hr, hfresh, hfault⟩ | ⟨hr, hop, hfault⟩ := fetch_record_cases s
  · rw [State.recordOrFault, hr, hfault, hf]
    exact hfresh.wf
  · rw [State.recordOrFault, hr, hfault]
    exact ⟨hop, fetch_pc s⟩

/-- The invariant holds after every fetch of a core without a fault. -/
theorem fetch_inv {s : State} (hflags : s.flagsWf) (hmem : Memory.wf s.mem) (hplatform : s.platformWf)
    (hf : s.fault = none) : s.fetch.Inv where
  flags := by rwa [State.flagsWf, fetch_f]
  memory := by rwa [fetch_mem]
  platform := by rwa [State.platformWf, fetch_delegatedRead, fetch_delegatedWrite]
  noPrefix := fetch_prefixPending s
  shape := fetch_recordOrFault hf

/-- `State.reset` is Reset over memory that nothing has written, without delegates and history. -/
theorem resetCore_of_empty {s : State} (hmem : s.mem = []) (hr : s.delegatedRead = []) (hw : s.delegatedWrite = [])
    (hbus : s.bus = []) : s.resetCore = State.reset := by
  rw [State.resetCore, State.resetRegisters, hmem, hr, hw, hbus]
  rfl

theorem resetCore_inv {s : State} (hmem : Memory.wf s.mem) (hplatform : s.platformWf) : s.resetCore.Inv :=
  fetch_inv (s := s.resetRegisters) (show 0xB0#8 &&& 0x0F#8 = 0x00#8 from rfl) hmem hplatform rfl

/-- Settles O51: Reset leaves no fault and no escape, and its fetch gives the record or the fault. -/
theorem invariantHoldsAfterReset : Obligations.InvariantHoldsAfterReset := by
  refine ⟨?_, fun s hmem hplatform => resetCore_inv hmem hplatform⟩
  have hempty := resetCore_of_empty (s := { State.reset with bus := [] }) rfl rfl rfl rfl
  rw [← hempty]
  exact resetCore_inv ⟨List.Pairwise.nil, List.forall_mem_nil _⟩ ⟨List.nodup_nil, List.nodup_nil⟩

/-- Settles O54: Reset reads nothing of the state but the bus. -/
theorem resetLeavesTheDocumentedState : Obligations.ResetLeavesTheDocumentedState := by
  refine ⟨fun s => ?_, fun s => resetCore_of_empty, fun s t hmem hr hw hbus => ?_⟩
  · simp [State.resetCore]
  · have hcore : s.resetCore = t.resetCore := by
      rw [State.resetCore, State.resetRegisters, hmem, hr, hw, hbus]
      rfl
    exact ⟨hcore, congrArg Host.Outcome.next hcore⟩

end Sys2Proof.Machine

/-! PROOFS. What each line of a schedule does to the modes, the counters of the record and the bus, form by form, and
what it leaves unchanged. -/

namespace Sys2Proof.Machine

/-! ### The context of a cycle -/

/-- What the driver and the fetch read of a record: all of it but the scratch bytes, R37. -/
structure Counters where
  op : Byte
  table : Table
  len : BitVec 3
  remaining : BitVec 3
  i : BitVec 3

def Record.counters (r : Record) : Counters where
  op := r.op
  table := r.table
  len := r.len
  remaining := r.remaining
  i := r.i

/-- The state without the registers, the scratch bytes and the bus: what most cycles leave alone. -/
structure Context where
  ime : Bool
  imeScheduled : Bool
  haltMode : Bool
  stopMode : Bool
  prefixPending : Bool
  counters : Option Counters
  fault : Option DecodeFault
  delegatedRead : List Word
  delegatedWrite : List Word
  cycles : Nat

def State.context (s : State) : Context where
  ime := s.ime
  imeScheduled := s.imeScheduled
  haltMode := s.haltMode
  stopMode := s.stopMode
  prefixPending := s.prefixPending
  counters := s.record.map Record.counters
  fault := s.fault
  delegatedRead := s.delegatedRead
  delegatedWrite := s.delegatedWrite
  cycles := s.cycles

/-- IME after cycle `k` of a form: R32, R210, R223. -/
def imeAfter (f : Form) (k : BitVec 3) (old : Bool) : Bool :=
  match f with
  | .di => false
  | .reti => if k = 4 then true else old
  | _ => old

/-- IME-scheduled after a cycle of a form: R33, R223, R224. -/
def imeScheduledAfter (f : Form) (old : Bool) : Bool :=
  match f with
  | .di => false
  | .ei => true
  | _ => old

/-- Halt-mode after a cycle of a form: R34, R221. -/
def haltModeAfter (f : Form) (old : Bool) : Bool :=
  match f with
  | .halt => true
  | _ => old

/-- Stop-mode after a cycle of a form: R35, R222. -/
def stopModeAfter (f : Form) (old : Bool) : Bool :=
  match f with
  | .stop => true
  | _ => old

/-- Prefix-pending after a cycle of a form: R36, R225. -/
def prefixPendingAfter (f : Form) (old : Bool) : Bool :=
  match f with
  | .prefixCB => true
  | _ => old

/-- The cycles that remain, this one counted, after cycle `k` of a form whose condition holds or fails: R87. -/
def remainingAfter (f : Form) (k : BitVec 3) (taken : Bool) (old : BitVec 3) : BitVec 3 :=
  if k = 1 then if taken then old else f.cyclesNotTaken.getD old else old

/-- The context after cycle `k` of a form. -/
def contextAfter (f : Form) (k : BitVec 3) (taken : Bool) (x : Context) : Context :=
  { x with
    ime := imeAfter f k x.ime
    imeScheduled := imeScheduledAfter f x.imeScheduled
    haltMode := haltModeAfter f x.haltMode
    stopMode := stopModeAfter f x.stopMode
    prefixPending := prefixPendingAfter f x.prefixPending
    counters := x.counters.map fun q => { q with remaining := remainingAfter f k taken q.remaining } }

theorem setReg_context (s : State) (x : Reg8) (v : Byte) : (s.setReg x v).context = s.context := by
  cases x <;> rfl

theorem setPair_context (s : State) (dd : Pair) (v : Word) : (s.setPair dd v).context = s.context := by
  cases dd <;> rfl

theorem setStackPair_context (s : State) (qq : StackPair) (v : Word) : (s.setStackPair qq v).context = s.context := by
  cases qq <;> rfl

theorem checkCond_eq (cc : Cond) (short : BitVec 3) :
    checkCond cc short = fun r s => s.setRecord { r with remaining := if s.cond cc then r.remaining else short } := by
  funext r s
  rw [checkCond, shorten_eq]

theorem formLines_context (f : Form) : (formLines f).zipIdx.Forall fun x => ∀ (r : Record) (s : State),
    (x.1 r (s.setRecord r)).context =
      contextAfter f (BitVec.ofNat 3 (x.2 + 1)) (s.taken f) (s.setRecord r).context := by
  cases f with
  | ldRR dst src => exact fun _ _ => setReg_context _ dst _
  | ldRN dst => exact ⟨fun _ _ => rfl, fun _ _ => setReg_context _ dst _⟩
  | ldRM dst => exact ⟨fun _ _ => rfl, fun _ _ => setReg_context _ dst _⟩
  | incR dst => exact fun _ _ => setReg_context _ dst _
  | decR dst => exact fun _ _ => setReg_context _ dst _
  | rotR o src => exact fun _ _ => setReg_context _ src _
  | resR k src => exact fun _ _ => setReg_context _ src _
  | setR k src => exact fun _ _ => setReg_context _ src _
  | ldPairNN dd => exact ⟨fun _ _ => rfl, fun _ _ => rfl, fun _ _ => setPair_context _ dd _⟩
  | incPair dd => exact ⟨fun _ _ => rfl, fun _ _ => setPair_context _ dd _⟩
  | decPair dd => exact ⟨fun _ _ => rfl, fun _ _ => setPair_context _ dd _⟩
  | pop qq => exact ⟨fun _ _ => rfl, fun _ _ => rfl, fun _ _ => setStackPair_context _ qq _⟩
  | jpCc cc => rw [formLines, linesJpCc, immLoUnless_eq]; and_intros <;> exact fun _ _ => rfl
  | jrCc cc => rw [formLines, linesJrCc, immEUnless_eq]; and_intros <;> exact fun _ _ => rfl
  | callCc cc => rw [formLines, linesCallCc, immLoUnless_eq]; and_intros <;> exact fun _ _ => rfl
  | retCc cc => rw [formLines, linesRetCc, checkCond_eq]; and_intros <;> exact fun _ _ => rfl
  | undefined op => trivial
  | _ => and_intros <;> exact fun _ _ => rfl

/-! ### The bus access of a cycle -/

/-- The one transaction that a cycle may make on the bus: R60. -/
inductive Access where
  | none
  | read (addr : Word)
  | write (addr : Word) (v : Byte)

/-- The state after a transaction. -/
def State.access (s : State) : Access → State
  | .none => s
  | .read addr => (s.memRead addr).2
  | .write addr v => s.memWrite addr v

/-- The address a transaction stores to. -/
def Access.storeAddress : Access → Option Word
  | .write addr _ => some addr
  | _ => Option.none

/-- The transaction of cycle `k` of a form, from the record and the state as that cycle finds them: the schedules of
41_load8.md to 47_prefixed.md. -/
def formAccess (f : Form) (k : BitVec 3) (r : Record) (s : State) : Access :=
  match f with
  | .ldRN _ | .aluN _ | .addSPE | .ldHLSPE | .jr | .jrCc _ => if k = 1 then .read s.pc else .none
  | .ldPairNN _ | .jp | .jpCc _ => if k = 1 ∨ k = 2 then .read s.pc else .none
  | .ldRM _ | .aluM _ | .bitM _ | .ldAHLI | .ldAHLD => if k = 1 then .read s.hl else .none
  | .ldMR src => if k = 1 then .write s.hl (s.reg src) else .none
  | .ldMN => if k = 1 then .read s.pc else if k = 2 then .write s.hl r.n else .none
  | .ldABC => if k = 1 then .read s.bc else .none
  | .ldADE => if k = 1 then .read s.de else .none
  | .ldBCA => if k = 1 then .write s.bc s.a else .none
  | .ldDEA => if k = 1 then .write s.de s.a else .none
  | .ldANN => if k = 1 ∨ k = 2 then .read s.pc else if k = 3 then .read (cat16 r.hi r.lo) else .none
  | .ldNNA => if k = 1 ∨ k = 2 then .read s.pc else if k = 3 then .write (cat16 r.hi r.lo) s.a else .none
  | .ldhAN => if k = 1 then .read s.pc else if k = 2 then .read (topPage r.n) else .none
  | .ldhNA => if k = 1 then .read s.pc else if k = 2 then .write (topPage r.n) s.a else .none
  | .ldAC => if k = 1 then .read (topPage s.c) else .none
  | .ldCA => if k = 1 then .write (topPage s.c) s.a else .none
  | .ldHLIA | .ldHLDA => if k = 1 then .write s.hl s.a else .none
  | .ldNNSP =>
    if k = 1 ∨ k = 2 then .read s.pc
    else if k = 3 then .write (cat16 r.hi r.lo) (lo8 s.sp)
    else if k = 4 then .write (cat16 r.hi r.lo + 1) (hi8 s.sp) else .none
  | .push qq =>
    if k = 2 then .write (s.sp - 1) (hi8 (s.stackPair qq))
    else if k = 3 then .write (s.sp - 1) (lo8 (s.stackPair qq)) else .none
  | .pop _ | .ret | .reti => if k = 1 ∨ k = 2 then .read s.sp else .none
  | .retCc _ => if k = 3 ∨ k = 4 then .read s.sp else .none
  | .call | .callCc _ =>
    if k = 1 ∨ k = 2 then .read s.pc
    else if k = 4 then .write (s.sp - 1) (hi8 s.pc)
    else if k = 5 then .write (s.sp - 1) (lo8 s.pc) else .none
  | .rst _ => if k = 2 then .write (s.sp - 1) (hi8 s.pc) else if k = 3 then .write (s.sp - 1) (lo8 s.pc) else .none
  | .incM => if k = 1 then .read s.hl else if k = 2 then .write s.hl (r.t + 1#8) else .none
  | .decM => if k = 1 then .read s.hl else if k = 2 then .write s.hl (r.t - 1#8) else .none
  | .rotM o => if k = 1 then .read s.hl else if k = 2 then .write s.hl (rotOut o r.t s.flagC).1 else .none
  | .resM b => if k = 1 then .read s.hl else if k = 2 then .write s.hl (resBit r.t b) else .none
  | .setM b => if k = 1 then .read s.hl else if k = 2 then .write s.hl (setBit r.t b) else .none
  | _ => .none

/-- Whether cycle `k` can be the last of a form, taken or not taken. -/
def mayEndAt (f : Form) (k : BitVec 3) : Bool := f.cycles == k || f.cyclesNotTaken == some k

/-- Cycle `k` of a form, from `s` to `t`, makes the transaction that the schedule has there, and none if it can be the
last. (Both sides of `last` and `store` are decided by `k` alone.) -/
structure CycleAccess (f : Form) (k : BitVec 3) (r : Record) (s t : State) : Prop where
  mem : t.mem = (s.access (formAccess f k r s)).mem
  bus : t.bus = (s.access (formAccess f k r s)).bus
  store : (formAccess f k r s).storeAddress = formStoreAddress f k r s
  last : (if mayEndAt f k then formAccess f k r s else .none) = .none

theorem formLines_access (f : Form) : (formLines f).zipIdx.Forall fun x => ∀ (r : Record) (s : State),
    CycleAccess f (BitVec.ofNat 3 (x.2 + 1)) r s (x.1 r s) := by
  cases f with
  | ldRR dst src => exact fun _ _ => ⟨setReg_mem _ dst _, setReg_bus _ dst _, rfl, rfl⟩
  | ldRN dst => exact ⟨fun _ _ => ⟨rfl, rfl, rfl, rfl⟩, fun _ _ => ⟨setReg_mem _ dst _, setReg_bus _ dst _, rfl, rfl⟩⟩
  | ldRM dst => exact ⟨fun _ _ => ⟨rfl, rfl, rfl, rfl⟩, fun _ _ => ⟨setReg_mem _ dst _, setReg_bus _ dst _, rfl, rfl⟩⟩
  | incR dst => exact fun _ _ => ⟨setReg_mem _ dst _, setReg_bus _ dst _, rfl, rfl⟩
  | decR dst => exact fun _ _ => ⟨setReg_mem _ dst _, setReg_bus _ dst _, rfl, rfl⟩
  | rotR o src => exact fun _ _ => ⟨setReg_mem _ src _, setReg_bus _ src _, rfl, rfl⟩
  | resR k src => exact fun _ _ => ⟨setReg_mem _ src _, setReg_bus _ src _, rfl, rfl⟩
  | setR k src => exact fun _ _ => ⟨setReg_mem _ src _, setReg_bus _ src _, rfl, rfl⟩
  | ldPairNN dd =>
    exact ⟨fun _ _ => ⟨rfl, rfl, rfl, rfl⟩, fun _ _ => ⟨rfl, rfl, rfl, rfl⟩,
      fun _ _ => ⟨setPair_mem _ dd _, setPair_bus _ dd _, rfl, rfl⟩⟩
  | incPair dd =>
    exact ⟨fun _ _ => ⟨rfl, rfl, rfl, rfl⟩, fun _ _ => ⟨setPair_mem _ dd _, setPair_bus _ dd _, rfl, rfl⟩⟩
  | decPair dd =>
    exact ⟨fun _ _ => ⟨rfl, rfl, rfl, rfl⟩, fun _ _ => ⟨setPair_mem _ dd _, setPair_bus _ dd _, rfl, rfl⟩⟩
  | pop qq =>
    exact ⟨fun _ _ => ⟨rfl, rfl, rfl, rfl⟩, fun _ _ => ⟨rfl, rfl, rfl, rfl⟩,
      fun _ _ => ⟨setStackPair_mem _ qq _, setStackPair_bus _ qq _, rfl, rfl⟩⟩
  | undefined op => trivial
  | _ => and_intros <;> exact fun _ _ => ⟨rfl, rfl, rfl, rfl⟩

/-! ### Registers -/

/-- From `s` to `t` every register that is not in a list is kept. -/
def KeepsOthers (dests : List Reg8) (s t : State) : Prop := ∀ x, t.reg x = if x ∈ dests then t.reg x else s.reg x

theorem setReg_keepsOthers (s : State) (x : Reg8) (v : Byte) : KeepsOthers [x] s (s.setReg x v) := by
  intro y
  by_cases h : y = x
  · rw [if_pos (List.mem_singleton.mpr h)]
  · rw [if_neg (mt List.mem_singleton.mp h), setReg_reg, if_neg (Ne.symm h)]

theorem alu_keepsOthers (s : State) (o : AluOp) (v : Byte) :
    KeepsOthers (if o = .cp then [] else [.a]) s (s.alu o v) := by
  intro x
  cases o <;> cases x <;> rfl

/-- The halves of a pair operand; SP has none. -/
def pairHalves : Pair → List Reg8
  | .bc => [.b, .c]
  | .de => [.d, .e]
  | .hl => [.h, .l]
  | .sp => []

theorem setPair_keepsOthers (s : State) (dd : Pair) (v : Word) : KeepsOthers (pairHalves dd) s (s.setPair dd v) := by
  intro x
  cases dd <;> cases x <;> rfl

theorem setStackPair_keepsOthers (s : State) (qq : StackPair) (v : Word) :
    KeepsOthers (formDestinations (.pop qq)) s (s.setStackPair qq v) := by
  intro x
  cases qq <;> cases x <;> rfl

theorem KeepsOthers.of_reg_eq {dests : List Reg8} {s t : State} (h : t.reg = s.reg) : KeepsOthers dests s t :=
  fun x => by rw [h, ite_self]

theorem formLines_keepsOthers (f : Form) :
    (formLines f).Forall fun line => ∀ (r : Record) (s : State), KeepsOthers (formDestinations f) s (line r s) := by
  cases f with
  | ldRR dst src => exact fun _ s => setReg_keepsOthers s dst _
  | ldRN dst => exact ⟨fun _ _ => .of_reg_eq rfl, fun _ s => setReg_keepsOthers s dst _⟩
  | ldRM dst => exact ⟨fun _ _ => .of_reg_eq rfl, fun _ s => setReg_keepsOthers s dst _⟩
  | incR dst => exact fun _ s => setReg_keepsOthers s dst _
  | decR dst => exact fun _ s => setReg_keepsOthers s dst _
  | rotR o src => exact fun _ s => setReg_keepsOthers s src _
  | resR k src => exact fun _ s => setReg_keepsOthers s src _
  | setR k src => exact fun _ s => setReg_keepsOthers s src _
  | ldPairNN dd =>
    rw [show formDestinations (.ldPairNN dd) = pairHalves dd by cases dd <;> rfl]
    exact ⟨fun _ _ => .of_reg_eq rfl, fun _ _ => .of_reg_eq rfl, fun _ s => setPair_keepsOthers s dd _⟩
  | incPair dd =>
    rw [show formDestinations (.incPair dd) = pairHalves dd by cases dd <;> rfl]
    exact ⟨fun _ _ => .of_reg_eq rfl, fun _ s => setPair_keepsOthers s dd _⟩
  | decPair dd =>
    rw [show formDestinations (.decPair dd) = pairHalves dd by cases dd <;> rfl]
    exact ⟨fun _ _ => .of_reg_eq rfl, fun _ s => setPair_keepsOthers s dd _⟩
  | pop qq => exact ⟨fun _ _ => .of_reg_eq rfl, fun _ _ => .of_reg_eq rfl, fun _ s => setStackPair_keepsOthers s qq _⟩
  | aluR o src => exact fun _ s => alu_keepsOthers s o _
  | aluM o => exact ⟨fun _ _ => .of_reg_eq rfl, fun _ s => alu_keepsOthers s o _⟩
  | aluN o => exact ⟨fun _ _ => .of_reg_eq rfl, fun _ s => alu_keepsOthers s o _⟩
  | undefined op => trivial
  | _ => and_intros <;> exact fun _ _ x => by cases x <;> rfl

theorem formLines_sp (f : Form) : (formLines f).Forall fun line => ∀ (r : Record) (s : State),
    (line r s).sp = if formWritesSP f then (line r s).sp else s.sp := by
  cases f with
  | ldRR dst src => exact fun _ s => setReg_sp s dst _
  | ldRN dst => exact ⟨fun _ _ => rfl, fun _ s => setReg_sp s dst _⟩
  | ldRM dst => exact ⟨fun _ _ => rfl, fun _ s => setReg_sp s dst _⟩
  | incR dst => exact fun _ s => setReg_sp s dst _
  | decR dst => exact fun _ s => setReg_sp s dst _
  | rotR o src => exact fun _ s => setReg_sp s src _
  | resR k src => exact fun _ s => setReg_sp s src _
  | setR k src => exact fun _ s => setReg_sp s src _
  | ldPairNN dd => cases dd <;> and_intros <;> exact fun _ _ => rfl
  | incPair dd => cases dd <;> and_intros <;> exact fun _ _ => rfl
  | decPair dd => cases dd <;> and_intros <;> exact fun _ _ => rfl
  | undefined op => trivial
  | _ => and_intros <;> exact fun _ _ => rfl

/-- F changes in the cycle in which the form writes its flags and in no other: R12, R86. -/
theorem formLines_f (f : Form) : (formLines f).zipIdx.Forall fun x => ∀ (r : Record) (s : State),
    (x.1 r s).f = if BitVec.ofNat 3 (x.2 + 1) = formFlagCycle f then (x.1 r s).f else s.f := by
  cases f with
  | undefined op => trivial
  | _ => and_intros <;> exact fun _ _ => rfl

/-! ### The bits no cycle reads -/

/-- `s` with other values in the three mode bits that no cycle reads: R32, R34, R35. -/
def State.withModes (s : State) (x y z : Bool) : State := { s with haltMode := x, stopMode := y, ime := z }

/-- `t` is `s` but for the three mode bits. -/
def SameButModes (s t : State) : Prop := ∃ x y z, t = s.withModes x y z

section WithModes

variable (s : State) (x y z : Bool)

theorem setReg_withModes (dst : Reg8) (v : Byte) :
    (s.withModes x y z).setReg dst v = (s.setReg dst v).withModes x y z := by
  cases dst <;> rfl

theorem setPair_withModes (dd : Pair) (v : Word) :
    (s.withModes x y z).setPair dd v = (s.setPair dd v).withModes x y z := by
  cases dd <;> rfl

theorem setStackPair_withModes (qq : StackPair) (v : Word) :
    (s.withModes x y z).setStackPair qq v = (s.setStackPair qq v).withModes x y z := by
  cases qq <;> rfl

end WithModes

theorem formLines_sameButModes (f : Form) : (formLines f).Forall fun line => ∀ (r : Record) (s : State) (x y z : Bool),
    SameButModes (line r s) (line r (s.withModes x y z)) := by
  cases f with
  | halt => exact fun _ _ _ y z => ⟨true, y, z, rfl⟩
  | stop => exact fun _ _ x _ z => ⟨x, true, z, rfl⟩
  | di => exact fun _ _ x y _ => ⟨x, y, false, rfl⟩
  | reti =>
    exact ⟨fun _ _ x y z => ⟨x, y, z, rfl⟩, fun _ _ x y z => ⟨x, y, z, rfl⟩, fun _ _ x y z => ⟨x, y, z, rfl⟩,
      fun _ _ x y _ => ⟨x, y, true, rfl⟩⟩
  | ldRR dst src => exact fun _ s x y z => ⟨x, y, z, setReg_withModes s x y z dst _⟩
  | ldRN dst => exact ⟨fun _ _ x y z => ⟨x, y, z, rfl⟩, fun _ s x y z => ⟨x, y, z, setReg_withModes s x y z dst _⟩⟩
  | ldRM dst => exact ⟨fun _ _ x y z => ⟨x, y, z, rfl⟩, fun _ s x y z => ⟨x, y, z, setReg_withModes s x y z dst _⟩⟩
  | incR dst =>
    exact fun _ s x y z => ⟨x, y, z, congrArg (State.incFlags · (s.reg dst)) (setReg_withModes s x y z dst _)⟩
  | decR dst =>
    exact fun _ s x y z => ⟨x, y, z, congrArg (State.decFlags · (s.reg dst)) (setReg_withModes s x y z dst _)⟩
  | rotR o src =>
    exact fun _ s x y z =>
      ⟨x, y, z, congrArg (State.rotFlags · (rotOut o (s.reg src) s.flagC)) (setReg_withModes s x y z src _)⟩
  | resR k src => exact fun _ s x y z => ⟨x, y, z, setReg_withModes s x y z src _⟩
  | setR k src => exact fun _ s x y z => ⟨x, y, z, setReg_withModes s x y z src _⟩
  | ldPairNN dd =>
    exact ⟨fun _ _ x y z => ⟨x, y, z, rfl⟩, fun _ _ x y z => ⟨x, y, z, rfl⟩,
      fun _ s x y z => ⟨x, y, z, setPair_withModes s x y z dd _⟩⟩
  | incPair dd => exact ⟨fun _ _ x y z => ⟨x, y, z, rfl⟩, fun _ s x y z => ⟨x, y, z, setPair_withModes s x y z dd _⟩⟩
  | decPair dd => exact ⟨fun _ _ x y z => ⟨x, y, z, rfl⟩, fun _ s x y z => ⟨x, y, z, setPair_withModes s x y z dd _⟩⟩
  | pop qq =>
    exact ⟨fun _ _ x y z => ⟨x, y, z, rfl⟩, fun _ _ x y z => ⟨x, y, z, rfl⟩,
      fun _ s x y z => ⟨x, y, z, setStackPair_withModes s x y z qq _⟩⟩
  | undefined op => trivial
  | _ => and_intros <;> exact fun _ _ x y z => ⟨x, y, z, rfl⟩

end Sys2Proof.Machine

/-! PROOFS. What one cycle of an instruction does: the facts about the lines of its form, carried over to `exec`. -/

namespace Sys2Proof.Machine

/-! ### From the lines of a form to `exec` -/

/-- Everything an instruction can do when it answers a next state, the line named by its place in the schedule. -/
theorem exec_next_line {i : Instr} {s t : State} (h : exec i s = .next t) :
    (∃ op, i.form = .undefined op ∧ t = s.raiseDecodeFault op (s.pc - 1)) ∨
    ∃ r line k, s.record = some r ∧ (line, k) ∈ (formLines i.form).zipIdx ∧ r.i = BitVec.ofNat 3 (k + 1) ∧
      t = line r s := by
  obtain hundef | ⟨r, line, k, hr, hline, hi, ht⟩ := exec_next_cases h
  · exact .inl hundef
  · refine .inr ⟨r, line, k, hr, List.mem_zipIdx_iff_getElem?.mpr hline, ?_, ht⟩
    rw [← hi, BitVec.ofNat_toNat, BitVec.setWidth_eq]

theorem setRecord_self {s : State} {r : Record} (hr : s.record = some r) : s.setRecord r = s := by
  rw [State.setRecord, ← hr]

/-- The context after one cycle of an instruction. -/
theorem exec_context {i : Instr} {s t : State} {r : Record} (hw : i.wellFormed = true) (hr : s.record = some r)
    (h : exec i s = .next t) : t.context = contextAfter i.form r.i (s.taken i.form) s.context := by
  obtain ⟨op, hop, -⟩ | ⟨r', line, k, hr', hline, hi, rfl⟩ := exec_next_line h
  · exact absurd hop (form_of_wellFormed hw op)
  · obtain rfl : r' = r := Option.some.inj (hr'.symm.trans hr)
    have hctx := List.forall_iff_forall_mem.mp (formLines_context i.form) _ hline r' s
    rwa [setRecord_self hr, ← hi] at hctx

/-- The bus access of one cycle of an instruction. -/
theorem exec_access {i : Instr} {s t : State} {r : Record} (hw : i.wellFormed = true) (hr : s.record = some r)
    (h : exec i s = .next t) : CycleAccess i.form r.i r s t := by
  obtain ⟨op, hop, -⟩ | ⟨r', line, k, hr', hline, hi, rfl⟩ := exec_next_line h
  · exact absurd hop (form_of_wellFormed hw op)
  · obtain rfl : r' = r := Option.some.inj (hr'.symm.trans hr)
    rw [hi]
    exact List.forall_iff_forall_mem.mp (formLines_access i.form) _ hline r' s

/-- A term that is no instruction takes the decode fault. -/
theorem exec_next_of_not_wellFormed {i : Instr} {s t : State} (hw : ¬ i.wellFormed = true) (h : exec i s = .next t) :
    ∃ op, i.form = .undefined op ∧ t = s.raiseDecodeFault op (s.pc - 1) := by
  obtain ⟨op, hop⟩ : ∃ op, i.form = .undefined op := by
    by_contra hdef
    exact hw (wellFormed_of_form fun op hop => hdef ⟨op, hop⟩)
  rw [exec_eq_form, hop] at h
  cases h
  exact ⟨op, hop, rfl⟩

/-- What holds of every line of a form, and of the decode fault, holds of one cycle of an instruction. -/
theorem exec_of_forall_lines {P : State → State → Prop} {i : Instr} {s t : State}
    (hlines : (formLines i.form).Forall fun line => ∀ (r : Record) (s : State), P s (line r s))
    (hundef : ∀ op, P s (s.raiseDecodeFault op (s.pc - 1))) (h : exec i s = .next t) : P s t := by
  obtain ⟨op, -, rfl⟩ | ⟨r, line, k, -, hline, -, rfl⟩ := exec_next_line h
  · exact hundef op
  · exact List.forall_iff_forall_mem.mp hlines line (List.fst_mem_of_mem_zipIdx hline) r s

/-! ### A cycle that the schedule has -/

/-- Every instruction completes every cycle of its schedule. -/
theorem exec_completes {i : Instr} {s : State} {r : Record} (hr : s.record = some r) (h1 : 1 ≤ r.i.toNat)
    (hlen : r.i.toNat ≤ i.form.cycles.toNat) : ∃ t, exec i s = .next t := by
  have hk : r.i.toNat - 1 < (formLines i.form).length := by
    rw [formLines_length]
    omega
  have hne : r.i ≠ 0 := fun h0 => by simp [h0] at h1
  refine ⟨_, exec_of_line (line := (formLines i.form)[r.i.toNat - 1]) hr ?_⟩
  rw [lineAt, if_neg hne]
  exact List.getElem?_eq_getElem hk

/-- In any other cycle it stops: log 12. -/
theorem exec_no_cycle {i : Instr} {s : State} {r : Record} (hw : i.wellFormed = true) (hr : s.record = some r)
    (h : r.i.toNat = 0 ∨ i.form.cycles.toNat < r.i.toNat) : exec i s = .fault .noScheduledCycle := by
  have hl : lineAt (formLines i.form) r.i = none := by
    rw [lineAt]
    split
    · rfl
    · next hne =>
      have h0 : r.i.toNat ≠ 0 := fun h0 => hne (BitVec.eq_of_toNat_eq h0)
      rw [List.getElem?_eq_none_iff, formLines_length]
      omega
  rw [exec_eq_form, runForm_defined (form_of_wellFormed hw), runLines, hr]
  simp only [hl]

/-- The record after one cycle: only the condition of a conditional instruction changes its counters. -/
theorem exec_record {i : Instr} {s t : State} {r : Record} (hw : i.wellFormed = true) (hr : s.record = some r)
    (h : exec i s = .next t) : ∃ r', t.record = some r' ∧ r'.op = r.op ∧ r'.table = r.table ∧ r'.len = r.len ∧
      r'.remaining = remainingAfter i.form r.i (s.taken i.form) r.remaining ∧ r'.i = r.i := by
  have hctx := congrArg Context.counters (exec_context hw hr h)
  simpa only [contextAfter, State.context, Record.counters, hr, Option.map_some, Option.map_eq_some_iff,
    Counters.mk.injEq] using hctx

/-- Settles O36: a cycle of the schedule completes, and no other exists. -/
theorem everyCycleOfEveryInstructionCompletes : Obligations.EveryCycleOfEveryInstructionCompletes := by
  refine fun i s r hw hr => ⟨fun h1 hlen => ?_, exec_no_cycle hw hr⟩
  obtain ⟨t, ht⟩ := exec_completes hr h1 hlen
  obtain ⟨r', hr', hop, htable, hlen, -, hi⟩ := exec_record hw hr ht
  exact ⟨t, r', ht, hr', hop, htable, hlen, hi⟩

/-- Settles O35: a byte of an undefined row decodes to nothing, and its row only raises the fault. -/
theorem undefinedRowsRaiseTheDecodeFault : Obligations.UndefinedRowsRaiseTheDecodeFault := by
  intro i op hf
  have hw : i.wellFormed = false := by
    simpa using mt (form_of_wellFormed · op) (not_not_intro hf)
  have ho : i.form.opcode = (.base, op) := congrArg Form.opcode hf
  have hrow : rowOf .base op = i := by simpa only [ho] using rowOf_opcode i
  refine ⟨?_, hw, encode_of_base ho, fun s => ?_⟩
  · rw [← hrow, wellFormed_rowOf_base] at hw
    simpa using hw
  · rw [exec_eq_form, hf]
    rfl

/-! ### The frames -/

/-- Settles O37: every line of every form keeps the registers that are not its destinations. -/
theorem registerFrameOfEveryInstruction : Obligations.RegisterFrameOfEveryInstruction := by
  refine fun i s t h => ⟨fun x hx => ?_, fun hsp => ?_⟩
  · have hkeep := exec_of_forall_lines (P := KeepsOthers (formDestinations i.form)) (formLines_keepsOthers i.form)
      (fun _ => .of_reg_eq rfl) h
    rw [hkeep x, if_neg hx]
  · have hkeep := exec_of_forall_lines (P := fun s t => t.sp = if formWritesSP i.form then t.sp else s.sp)
      (formLines_sp i.form) (fun _ => (ite_self _).symm) h
    rw [hkeep, hsp]
    rfl

/-- Outside the cycle that writes the flags F is unchanged: R12, R86. -/
theorem exec_f_of_ne {i : Instr} {s t : State} {r : Record} (hr : s.record = some r) (h : exec i s = .next t)
    (hne : r.i ≠ formFlagCycle i.form) : t.f = s.f := by
  obtain ⟨op, -, rfl⟩ | ⟨r', line, k, hr', hline, hi, rfl⟩ := exec_next_line h
  · rfl
  · obtain rfl : r' = r := Option.some.inj (hr'.symm.trans hr)
    have hf := List.forall_iff_forall_mem.mp (formLines_f i.form) _ hline r' s
    rwa [if_neg (hi ▸ hne)] at hf

/-- F as it was obeys the flag string of a form that writes no flag. -/
theorem obeyed_noFlags {old new : Byte} (h : new = old) : noFlags.Obeyed old new := by
  subst h
  exact ⟨rfl, rfl, rfl, rfl, id⟩

/-- The line of the cycle in which a form writes its flags. -/
def flagLine (f : Form) : Line := (lineAt (formLines f) (formFlagCycle f)).getD idle

/-- That line obeys the form's flag string. First the forms that write flags; the others leave F as it was. -/
theorem flagLine_obeyed (f : Form) (r : Record) (s : State) : (formFlags f).Obeyed s.f (flagLine f r s).f := by
  cases f with
  | aluR o src => exact alu_obeyed s o _
  | aluM o => exact alu_obeyed s o _
  | aluN o => exact alu_obeyed s o _
  | incR dst => exact setReg_f s dst _ ▸ incFlags_obeyed _ _
  | incM => exact incFlags_obeyed _ _
  | decR dst => exact setReg_f s dst _ ▸ decFlags_obeyed _ _
  | decM => exact decFlags_obeyed _ _
  | daa => exact daa_obeyed s
  | cpl => exact cpl_obeyed s
  | scf => exact scf_obeyed s
  | ccf => exact ccf_obeyed s
  | rlca => exact rotA_obeyed s .rlc
  | rrca => exact rotA_obeyed s .rrc
  | rla => exact rotA_obeyed s .rl
  | rra => exact rotA_obeyed s .rr
  | addHL dd => exact addHLFlags_obeyed _ _ _
  | addSPE => exact obeyed_znhc rfl rfl trivial trivial
  | ldHLSPE => exact obeyed_znhc rfl rfl trivial trivial
  | pop qq =>
    cases qq with
    | af => exact setAF_obeyed s _
    | _ => exact obeyed_noFlags rfl
  | rotR o src => exact setReg_f s src _ ▸ rotFlags_obeyed _ o _ _
  | rotM o => exact rotFlags_obeyed _ o _ _
  | bitR k src => exact bitFlags_obeyed s _ k
  | bitM k => exact bitFlags_obeyed s _ k
  | ldRR dst src => exact obeyed_noFlags (setReg_f s dst _)
  | ldRN dst => exact obeyed_noFlags (setReg_f s dst _)
  | ldRM dst => exact obeyed_noFlags (setReg_f s dst _)
  | resR k src => exact obeyed_noFlags (setReg_f s src _)
  | setR k src => exact obeyed_noFlags (setReg_f s src _)
  | ldPairNN dd => exact obeyed_noFlags (setPair_f s dd _)
  | incPair dd => exact obeyed_noFlags (setPair_f s dd _)
  | decPair dd => exact obeyed_noFlags (setPair_f s dd _)
  | _ => exact obeyed_noFlags rfl

/-- In the cycle that writes the flags F changes as the flag string says: R12. -/
theorem exec_f_of_eq {i : Instr} {s t : State} {r : Record} (hw : i.wellFormed = true) (hr : s.record = some r)
    (h : exec i s = .next t) (hcycle : r.i = formFlagCycle i.form) : (formFlags i.form).Obeyed s.f t.f := by
  rw [exec_eq_form, runForm_defined (form_of_wellFormed hw)] at h
  obtain ⟨r', line, hr', hl, rfl⟩ := runLines_next h
  obtain rfl : r' = r := Option.some.inj (hr'.symm.trans hr)
  have hflag : flagLine i.form = line := by rw [flagLine, ← hcycle, hl, Option.getD_some]
  exact hflag ▸ flagLine_obeyed i.form r' s

/-- Settles O38: F outside the cycle of the flags, and in it. -/
theorem flagStringsHold : Obligations.FlagStringsHold := by
  refine fun i s t r hw hr h => ⟨exec_f_of_ne hr h, fun hcycle => ?_, fun hlow => exec_flagsWf hlow h⟩
  obtain ⟨hz, hn, hh, hc, -⟩ := exec_f_of_eq hw hr h hcycle
  exact ⟨hz, hn, hh, hc⟩

/-- A transaction that stores nothing leaves memory whole. -/
theorem access_mem_of_none {x : Access} (s : State) (h : x.storeAddress = none) : (s.access x).mem = s.mem := by
  cases x with
  | none => rfl
  | read addr => rfl
  | write addr v => cases h

/-- A transaction that stores to an address leaves every other address as it was. -/
theorem access_read_other {x : Access} {addr other : Word} (s : State) (h : x.storeAddress = some addr)
    (hne : other ≠ addr) : Memory.read (s.access x).mem other = Memory.read s.mem other := by
  cases x with
  | none => cases h
  | read addr => cases h
  | write addr' v => cases h; exact memWrite_read_other s v hne

/-- Settles O40: from the one bus access of the cycle. -/
theorem memoryFrameOfEveryInstruction : Obligations.MemoryFrameOfEveryInstruction := by
  intro i s t r hr h
  by_cases hw : i.wellFormed = true
  · obtain ⟨hmem, -, hstore, -⟩ := exec_access hw hr h
    split
    · next hnone => rw [hmem, access_mem_of_none s (hstore.trans hnone)]
    · next a ha => exact fun other hne => hmem ▸ access_read_other s (hstore.trans ha) hne
  · obtain ⟨op, hop, rfl⟩ := exec_next_of_not_wellFormed hw h
    rw [hop]
    rfl

theorem imeAfter_of_ne {f : Form} (k : BitVec 3) (old : Bool) (hdi : f ≠ .di) (hreti : f ≠ .reti) :
    imeAfter f k old = old := by
  unfold imeAfter
  split
  · exact absurd rfl hdi
  · exact absurd rfl hreti
  · rfl

theorem imeScheduledAfter_of_ne {f : Form} (old : Bool) (hdi : f ≠ .di) (hei : f ≠ .ei) :
    imeScheduledAfter f old = old := by
  unfold imeScheduledAfter
  split
  · exact absurd rfl hdi
  · exact absurd rfl hei
  · rfl

theorem haltModeAfter_of_ne {f : Form} (old : Bool) (h : f ≠ .halt) : haltModeAfter f old = old := by
  unfold haltModeAfter
  split
  · exact absurd rfl h
  · rfl

theorem stopModeAfter_of_ne {f : Form} (old : Bool) (h : f ≠ .stop) : stopModeAfter f old = old := by
  unfold stopModeAfter
  split
  · exact absurd rfl h
  · rfl

theorem prefixPendingAfter_of_ne {f : Form} (old : Bool) (h : f ≠ .prefixCB) : prefixPendingAfter f old = old := by
  unfold prefixPendingAfter
  split
  · exact absurd rfl h
  · rfl

/-- The context after one cycle, field by field. -/
theorem exec_context_fields {i : Instr} {s t : State} {r : Record} (hw : i.wellFormed = true) (hr : s.record = some r)
    (h : exec i s = .next t) :
    t.ime = imeAfter i.form r.i s.ime ∧ t.imeScheduled = imeScheduledAfter i.form s.imeScheduled ∧
    t.haltMode = haltModeAfter i.form s.haltMode ∧ t.stopMode = stopModeAfter i.form s.stopMode ∧
    t.prefixPending = prefixPendingAfter i.form s.prefixPending ∧ t.fault = s.fault ∧
    t.delegatedRead = s.delegatedRead ∧ t.delegatedWrite = s.delegatedWrite ∧ t.cycles = s.cycles := by
  have hctx := exec_context hw hr h
  simp only [State.context, contextAfter, Context.mk.injEq] at hctx
  obtain ⟨hime, hsched, hhalt, hstop, hpending, -, hrest⟩ := hctx
  exact ⟨hime, hsched, hhalt, hstop, hpending, hrest⟩

/-- An instruction that answers a next state had a record to run, or is an undefined byte. -/
theorem exec_next_record {i : Instr} {s t : State} (hw : i.wellFormed = true) (h : exec i s = .next t) :
    ∃ r, s.record = some r := by
  obtain ⟨op, hop, -⟩ | ⟨r, -, -, hr, -⟩ := exec_next_line h
  · exact absurd hop (form_of_wellFormed hw op)
  · exact ⟨r, hr⟩

/-- Settles O41: from the modes that the form and the cycle determine. -/
theorem modeFrameOfEveryInstruction : Obligations.ModeFrameOfEveryInstruction := by
  intro i s t hw h
  obtain ⟨r, hr⟩ := exec_next_record hw h
  obtain ⟨hime, hsched, hhalt, hstop, hpending, hrest⟩ := exec_context_fields hw hr h
  have hform {j : Instr} (hne : i ≠ j) : i.form ≠ j.form := form_injective.ne hne
  exact ⟨fun hdi hreti => hime.trans (imeAfter_of_ne _ _ (hform hdi) (hform hreti)),
    fun hdi hei => hsched.trans (imeScheduledAfter_of_ne _ (hform hdi) (hform hei)),
    fun hne => hhalt.trans (haltModeAfter_of_ne _ (hform hne)),
    fun hne => hstop.trans (stopModeAfter_of_ne _ (hform hne)),
    fun hne => hpending.trans (prefixPendingAfter_of_ne _ (hform hne)), hrest⟩

end Sys2Proof.Machine

/-! PROOFS. The step: with a record, with a fault, and a run of several. -/

namespace Sys2Proof.Machine

/-! ### The step as a call of `exec` between its beginning and its end -/

/-- What a call does with the outcome of its cycle: R85. -/
def endCall : Result → Result
  | .next u => .next u.endCycle
  | .fault x => .fault x
  | .refused x => .refused x

theorem step_of_record {s : State} {r : Record} (hf : s.fault = none) (hr : s.record = some r) :
    step s = endCall (exec r.instr (s.beginCycle r)) := by
  rw [step, hf, hr]
  rfl

theorem step_of_exec {s u : State} {r : Record} (hf : s.fault = none) (hr : s.record = some r)
    (h : exec r.instr (s.beginCycle r) = .next u) : step s = .next u.endCycle := by
  rw [step_of_record hf hr, h]
  rfl

theorem step_of_fault {s : State} (hf : s.fault.isSome = true) : step s = .next s.countCall := by
  obtain ⟨x, hx⟩ := Option.isSome_iff_exists.mp hf
  rw [step, hx]

/-- What the end of a call leaves: a part of the state that neither the record nor a fetch touches. -/
theorem endCycle_frame {α : Type} {part : State → α} (hset : ∀ (s : State) (r : Record), part (s.setRecord r) = part s)
    (hfetch : ∀ s : State, part s.fetch = part s) (s : State) : part s.endCycle = part s := by
  cases hr : s.record with
  | none => rw [State.endCycle, hr]
  | some r =>
    rw [endCycle_of_record hr]
    split
    · rw [hfetch, hset]
    · rw [hset]

@[simp] theorem endCycle_ime (s : State) : s.endCycle.ime = s.ime :=
  endCycle_frame (part := State.ime) (fun _ _ => rfl) fetch_ime s

@[simp] theorem endCycle_imeScheduled (s : State) : s.endCycle.imeScheduled = s.imeScheduled :=
  endCycle_frame (part := State.imeScheduled) (fun _ _ => rfl) fetch_imeScheduled s

@[simp] theorem endCycle_cycles (s : State) : s.endCycle.cycles = s.cycles :=
  endCycle_frame (part := State.cycles) (fun _ _ => rfl) fetch_cycles s

theorem sub_one_eq_zero_iff : ∀ v : BitVec 3, v - 1 = 0 ↔ v = 1 := by
  decide

/-- The end of a call that is not the last of its instruction. -/
theorem endCycle_of_ne {u : State} {r : Record} (hr : u.record = some r) (h : r.remaining ≠ 1) :
    u.endCycle = u.setRecord { r with remaining := r.remaining - 1 } := by
  rw [endCycle_of_record hr, if_neg (mt (sub_one_eq_zero_iff _).mp h)]

/-- The end of the last call of an instruction: the fetch, R85. -/
theorem endCycle_of_eq {u : State} {r : Record} (hr : u.record = some r) (h : r.remaining = 1) :
    u.endCycle = (u.setRecord { r with remaining := 0 }).fetch := by
  have h0 := (sub_one_eq_zero_iff _).mpr h
  rw [endCycle_of_record hr, if_pos h0, h0]

/-! ### Runs -/

/-- A run begins with a step, for every machine behind the host's interface. -/
theorem coreRun_succ_next {M : Host.Core} {k : Nat} {s t : M.State} :
    M.run (k + 1) s = .next t ↔ ∃ u, M.step s = .next u ∧ M.run k u = .next t := by
  rw [Host.Core.run]
  cases M.step s <;> simp

theorem run_succ_next {k : Nat} {s t : State} (h : Host.Core.run Sys2Proof.core (k + 1) s = .next t) :
    ∃ u, step s = .next u ∧ Host.Core.run Sys2Proof.core k u = .next t :=
  coreRun_succ_next (M := Sys2Proof.core).mp h

theorem run_of_step {k : Nat} {s u t : State} (hstep : step s = .next u)
    (hrun : Host.Core.run Sys2Proof.core k u = .next t) : Host.Core.run Sys2Proof.core (k + 1) s = .next t :=
  coreRun_succ_next (M := Sys2Proof.core).mpr ⟨u, hstep, hrun⟩

/-- A run and one step more. -/
theorem run_succ_last {k : Nat} {s u t : State} (hrun : Host.Core.run Sys2Proof.core k s = .next u)
    (hstep : step u = .next t) : Host.Core.run Sys2Proof.core (k + 1) s = .next t := by
  induction k generalizing s with
  | zero =>
    cases hrun
    exact run_of_step hstep rfl
  | succ k ih =>
    obtain ⟨v, hv, hrun⟩ := run_succ_next hrun
    exact run_of_step hv (ih hrun)

theorem exec_cycles {i : Instr} {s t : State} (h : exec i s = .next t) : t.cycles = s.cycles := by
  by_cases hw : i.wellFormed = true
  · obtain ⟨r, hr⟩ := exec_next_record hw h
    obtain ⟨-, -, -, -, -, -, -, -, hcycles⟩ := exec_context_fields hw hr h
    exact hcycles
  · obtain ⟨op, -, rfl⟩ := exec_next_of_not_wellFormed hw h
    rfl

theorem step_cycles {s t : State} (h : step s = .next t) : t.cycles = s.cycles + 1 := by
  obtain ⟨-, rfl⟩ | ⟨-, r, u, -, hexec, rfl⟩ := step_next h
  · rfl
  · rw [endCycle_cycles, exec_cycles hexec, beginCycle_cycles]

theorem run_cycles {k : Nat} {s t : State} (h : Host.Core.run Sys2Proof.core k s = .next t) :
    t.cycles = s.cycles + k := by
  induction k generalizing s with
  | zero => cases h; rfl
  | succ k ih =>
    obtain ⟨u, hu, hrun⟩ := run_succ_next h
    rw [ih hrun, step_cycles hu]
    omega

/-- Settles O47: the step at a record, at a fault, and the end of a cycle. -/
theorem stepIsOneMachineCycle : Obligations.StepIsOneMachineCycle := by
  refine ⟨fun s r hf hr => ?_, fun u r hr => ⟨endCycle_of_ne hr, endCycle_of_eq hr⟩, fun s => step_of_fault,
    fun k s t => run_cycles⟩
  have hime : (if s.imeScheduled then true else s.ime) = (s.ime || s.imeScheduled) := by
    cases s.imeScheduled <;> simp
  rw [hime]
  exact step_of_record hf hr

/-- A core with a recorded fault counts the calls and does nothing else: R261, R283. -/
theorem run_of_fault (k : Nat) {s : State} (hf : s.fault.isSome = true) :
    Host.Core.run Sys2Proof.core k s = .next { s with cycles := s.cycles + k } := by
  induction k generalizing s with
  | zero => rfl
  | succ k ih =>
    have hcount : s.cycles + (k + 1) = s.cycles + 1 + k := by omega
    rw [hcount]
    exact run_of_step (step_of_fault hf) (ih (s := s.countCall) hf)

/-- Settles O53: by induction on the calls; the fetch of Reset decodes or records the fault. -/
theorem faultedCoreIsStuckUntilReset : Obligations.FaultedCoreIsStuckUntilReset := by
  refine fun s hf => ⟨step_of_fault hf, fun k => run_of_fault k hf, fun hdecode => ?_, fun hop => ?_⟩
  · obtain ⟨-, -, -, hfault⟩ | ⟨-, hop, -⟩ := fetch_record_cases s.resetRegisters
    · exact hfault
    · exact absurd (decodeBase_of_undefined hop) hdecode
  · rw [State.resetCore, fetch_of_undefined (s := s.resetRegisters) rfl hop]
    rfl

/-- Settles O49: the fetched record is that of the byte, and the step runs its instruction. -/
theorem stepRunsTheInstructionAtPC : Obligations.StepRunsTheInstructionAtPC := by
  refine ⟨fun s i hp hf hi => ?_, fun s hp hf => ?_⟩
  · have hfetch := fetch_of_decodeBase hp hi
    refine ⟨_, congrArg State.record hfetch, rfl, ?_⟩
    have hfault : s.fetch.fault = none := (congrArg State.fault hfetch).trans hf
    rw [step_of_record hfault (congrArg State.record hfetch), newRecord_base_instr hi]
    rfl
  · have hfetch := fetch_of_prefixPending hp
    refine ⟨_, congrArg State.record hfetch, rfl, ?_⟩
    have hfault : s.fetch.fault = none := (congrArg State.fault hfetch).trans hf
    exact step_of_record hfault (congrArg State.record hfetch)

end Sys2Proof.Machine

/-! PROOFS. The record through a call: its counters, the invariant, the number of calls of an instruction, and the mode
bits that no step reads. -/

namespace Sys2Proof.Machine

/-! ### The counters of a well-formed record -/

/-- A not-taken length is at least 2 and shorter than the taken one: R87. -/
theorem cyclesNotTaken_bounds {f : Form} {short : BitVec 3} (h : f.cyclesNotTaken = some short) :
    2 ≤ short.toNat ∧ short.toNat < f.cycles.toNat := by
  cases f with
  | jpCc cc => cases h; simp [Form.cycles]
  | jrCc cc => cases h; simp [Form.cycles]
  | callCc cc => cases h; simp [Form.cycles]
  | retCc cc => cases h; simp [Form.cycles]
  | _ => cases h

/-- The cycles that remain after a cycle: as before, or the not-taken length from c1 on: R87. -/
theorem remainingAfter_cases (f : Form) (k : BitVec 3) (taken : Bool) (old : BitVec 3) :
    remainingAfter f k taken old = old ∨
    (k = 1 ∧ f.cyclesNotTaken = some (remainingAfter f k taken old)) := by
  unfold remainingAfter
  split
  · next hk =>
    split
    · exact .inl rfl
    · cases h : f.cyclesNotTaken with
      | none => exact .inl rfl
      | some short => exact .inr ⟨hk, rfl⟩
  · exact .inl rfl

/-- A well-formed record has a cycle to run, and its index does not wrap. -/
theorem Record.wf.next_i {r : Record} (h : r.wf) :
    (r.i + 1).toNat = r.i.toNat + 1 ∧ r.i.toNat + 1 ≤ r.instr.form.cycles.toNat := by
  obtain ⟨-, hlen, hne, hsum⟩ := h
  have hpos : 0 < r.remaining.toNat := Nat.pos_of_ne_zero fun h0 => hne (BitVec.eq_of_toNat_eq h0)
  have hle : r.i.toNat + 1 ≤ r.instr.form.cycles.toNat := by
    obtain hsum | ⟨-, short, hshort, hsum⟩ := hsum
    · rw [hlen] at hsum
      omega
    · have := cyclesNotTaken_bounds hshort
      omega
  refine ⟨?_, hle⟩
  have hlt := r.instr.form.cycles.isLt
  rw [BitVec.toNat_add, show (1 : BitVec 3).toNat = 1 from rfl, Nat.mod_eq_of_lt (by omega)]

theorem toNat_sub_one {v : BitVec 3} (h : v ≠ 0) : (v - 1).toNat = v.toNat - 1 := by
  revert v
  decide

/-- The record after a call that was not its last is well formed: R84 to R87. -/
theorem Record.wf.after {r r' : Record} {taken : Bool} (h : r.wf) (hop : r'.op = r.op) (htable : r'.table = r.table)
    (hlen : r'.len = r.len) (hi : r'.i = r.i + 1) (hne : r'.remaining ≠ 0)
    (hrem : r'.remaining = remainingAfter r.instr.form (r.i + 1) taken r.remaining - 1) : r'.wf := by
  obtain ⟨hnext, -⟩ := h.next_i
  obtain ⟨hw, hlen0, hne0, hsum⟩ := h
  have hinstr : r'.instr = r.instr := by rw [Record.instr, hop, htable]; rfl
  have hi0 : r'.i ≠ 0 := fun h0 => by rw [← hi, h0] at hnext; simp at hnext
  refine ⟨hinstr ▸ hw, by rw [hlen, hinstr, hlen0], hne, ?_⟩
  rw [hinstr, hlen, hi, hnext, hrem]
  obtain hsame | ⟨hk, hshort⟩ := remainingAfter_cases r.instr.form (r.i + 1) taken r.remaining
  · rw [hsame, toNat_sub_one hne0]
    have hpos : 0 < r.remaining.toNat := Nat.pos_of_ne_zero fun h0 => hne0 (BitVec.eq_of_toNat_eq h0)
    obtain hsum | ⟨-, short, hshort, hsum⟩ := hsum
    · exact .inl (by omega)
    · exact .inr ⟨hi ▸ hi0, short, hshort, by omega⟩
  · obtain ⟨h2, -⟩ := cyclesNotTaken_bounds hshort
    have hs0 : remainingAfter r.instr.form (r.i + 1) taken r.remaining ≠ 0 := fun h0 => by rw [h0] at h2; simp at h2
    rw [hk] at hnext
    have hz : r.i.toNat = 0 := by simpa using hnext.symm
    exact .inr ⟨hi ▸ hi0, _, hshort, by rw [toNat_sub_one hs0]; omega⟩

/-- When no cycle remains, this one can be the last of its form. -/
theorem Record.wf.mayEndAt {r : Record} {taken : Bool} (h : r.wf)
    (hend : remainingAfter r.instr.form (r.i + 1) taken r.remaining = 1) : mayEndAt r.instr.form (r.i + 1) = true := by
  obtain ⟨hnext, -⟩ := h.next_i
  obtain ⟨-, hlen, -, hsum⟩ := h
  rw [Machine.mayEndAt, Bool.or_eq_true, beq_iff_eq, beq_iff_eq]
  obtain hsame | ⟨-, hshort⟩ := remainingAfter_cases r.instr.form (r.i + 1) taken r.remaining
  · rw [← hsame, hend] at hsum
    obtain hsum | ⟨-, short, hshort, hsum⟩ := hsum
    · exact .inl (BitVec.eq_of_toNat_eq (by rw [hnext, ← hlen]; exact hsum.symm))
    · refine .inr (hshort.trans (congrArg some (BitVec.eq_of_toNat_eq ?_)))
      rw [hnext]
      exact hsum.symm
  · obtain ⟨h2, -⟩ := cyclesNotTaken_bounds hshort
    rw [hend] at h2
    exact absurd h2 (by decide)

/-! ### A call with a well-formed record -/

theorem taken_beginCycle (s : State) (r : Record) (f : Form) : (s.beginCycle r).taken f = s.taken f := rfl

/-- A call with a well-formed record runs its cycle: the next line of the schedule, which leaves the record with its
counters. -/
theorem exec_beginCycle {s : State} {r : Record} (hwf : r.wf) :
    ∃ u r', exec r.instr (s.beginCycle r) = .next u ∧ u.record = some r' ∧ r'.op = r.op ∧ r'.table = r.table ∧
      r'.len = r.len ∧
      r'.remaining = remainingAfter r.instr.form (r.i + 1) (s.taken r.instr.form) r.remaining ∧ r'.i = r.i + 1 := by
  obtain ⟨hnext, hle⟩ := hwf.next_i
  have hr : (s.beginCycle r).record = some { r with i := r.i + 1 } := rfl
  obtain ⟨u, hu⟩ := exec_completes hr (by rw [hnext]; omega) (by rw [hnext]; exact hle)
  obtain ⟨r', hr', hrest⟩ := exec_record hwf.1 hr hu
  exact ⟨u, r', hu, hr', hrest⟩

/-- The record after a call: one cycle less remains, R85. -/
def State.countDown (u : State) : State :=
  match u.record with
  | none => u
  | some r => u.setRecord { r with remaining := r.remaining - 1 }

/-- The end of such a call: the fetch when no cycle remains; else a record that is well formed again. -/
theorem step_of_wf {s : State} {r : Record} (hf : s.fault = none) (hr : s.record = some r) (hwf : r.wf) :
    ∃ u r', exec r.instr (s.beginCycle r) = .next u ∧ u.countDown = u.setRecord r' ∧ r'.instr = r.instr ∧
      r'.i = r.i + 1 ∧
      r'.remaining = remainingAfter r.instr.form (r.i + 1) (s.taken r.instr.form) r.remaining - 1 ∧
      (r'.remaining = 0 → step s = .next (u.setRecord r').fetch) ∧
      (r'.remaining ≠ 0 → step s = .next (u.setRecord r') ∧ r'.wf) := by
  obtain ⟨u, q, hu, hq, hop, htable, hlen, hrem, hi⟩ := exec_beginCycle (s := s) hwf
  have hinstr : q.instr = r.instr := by rw [Record.instr, hop, htable]; rfl
  have hrem' := congrArg (· - 1) hrem
  refine ⟨u, { q with remaining := q.remaining - 1 }, hu, ?_, hinstr, hi, hrem', fun h0 => ?_, fun hne => ⟨?_, ?_⟩⟩
  · rw [State.countDown, hq]
  · rw [step_of_exec hf hr hu, endCycle_of_record hq, if_pos h0]
  · rw [step_of_exec hf hr hu, endCycle_of_record hq, if_neg hne]
  · exact hwf.after hop htable hlen hi hne hrem'

/-- A cycle keeps the canonical form of memory. -/
theorem access_wf (x : Access) {s : State} (h : Memory.wf s.mem) : Memory.wf (s.access x).mem := by
  cases x with
  | none => exact h
  | read addr => exact h
  | write addr v => exact memWrite_wf s h addr v

/-- The parts of the invariant that say nothing of the record, through one cycle. -/
theorem exec_keeps {i : Instr} {s u : State} {r : Record} (hw : i.wellFormed = true) (hr : s.record = some r)
    (hu : exec i s = .next u) (hflags : s.flagsWf) (hmem : Memory.wf s.mem) (hplatform : s.platformWf) :
    u.flagsWf ∧ Memory.wf u.mem ∧ u.platformWf ∧ u.fault = s.fault := by
  obtain ⟨-, -, -, -, -, hfault, hread, hwrite, -⟩ := exec_context_fields hw hr hu
  obtain ⟨haccess, -, -, -⟩ := exec_access hw hr hu
  exact ⟨exec_flagsWf hflags hu, haccess ▸ access_wf _ hmem, by rwa [State.platformWf, hread, hwrite], hfault⟩

/-- A record of PREFIX has one cycle, so no call ends with the escape pending: R90, R225. -/
theorem Record.wf.remaining_prefixCB {r : Record} (h : r.wf) (hf : r.instr.form = .prefixCB) (k : BitVec 3)
    (taken : Bool) : remainingAfter r.instr.form k taken r.remaining = 1 := by
  obtain ⟨-, hlen, hne, hsum⟩ := h
  have hpos : 0 < r.remaining.toNat := Nat.pos_of_ne_zero fun h0 => hne (BitVec.eq_of_toNat_eq h0)
  have hone : r.remaining.toNat = 1 := by
    rw [hlen, hf] at hsum
    obtain hsum | ⟨-, short, hshort, -⟩ := hsum
    · have : (Form.cycles .prefixCB).toNat = 1 := rfl
      omega
    · cases hshort
  obtain hsame | ⟨-, hshort⟩ := remainingAfter_cases r.instr.form k taken r.remaining
  · exact hsame.trans (BitVec.eq_of_toNat_eq hone)
  · rw [hf] at hshort
    cases hshort

/-- A call with a well-formed record keeps the invariant. -/
theorem step_inv_of_record {s : State} {r : Record} (hinv : s.Inv) (hf : s.fault = none) (hr : s.record = some r)
    (hwf : r.wf) : ∃ t, step s = .next t ∧ t.Inv := by
  obtain ⟨u, r', hu, -, -, -, hrem, hlast, hmore⟩ := step_of_wf hf hr hwf
  have hrc : (s.beginCycle r).record = some { r with i := r.i + 1 } := rfl
  obtain ⟨hflags, hmem, hplatform, hfault⟩ := exec_keeps hwf.1 hrc hu hinv.flags hinv.memory hinv.platform
  have hfault : u.fault = none := hfault.trans hf
  by_cases h0 : r'.remaining = 0
  · exact ⟨_, hlast h0, fetch_inv (s := u.setRecord r') hflags hmem hplatform hfault⟩
  · obtain ⟨hstep, hwf'⟩ := hmore h0
    refine ⟨_, hstep, hflags, hmem, hplatform, ?_, ?_⟩
    · have hform : r.instr.form ≠ .prefixCB := fun hform => by
        rw [hwf.remaining_prefixCB hform] at hrem
        exact h0 hrem
      obtain ⟨-, -, -, -, hpending, -⟩ := exec_context_fields hwf.1 hrc hu
      exact (hpending.trans (prefixPendingAfter_of_ne _ hform)).trans hinv.noPrefix
    · rw [State.recordOrFault, setRecord_fault, hfault]
      exact hwf'

/-- The two shapes of a state that meets the invariant. -/
theorem State.Inv.cases {s : State} (h : s.Inv) :
    (s.fault = none ∧ ∃ r, s.record = some r ∧ r.wf) ∨ (s.fault.isSome = true) := by
  have hshape := h.shape
  unfold State.recordOrFault at hshape
  split at hshape
  · next r hf hr => exact .inl ⟨hf, r, hr, hshape⟩
  · next x hf _ => exact .inr (by rw [hf]; rfl)
  · exact hshape.elim
  · exact hshape.elim

/-- Settles O52: with a record, its cycle completes; with a fault, only the count of calls changes. -/
theorem stepKeepsTheInvariantAndNeverStops : Obligations.StepKeepsTheInvariantAndNeverStops := by
  intro s hinv
  obtain ⟨hf, r, hr, hwf⟩ | hf := hinv.cases
  · exact step_inv_of_record hinv hf hr hwf
  · obtain ⟨hflags, hmem, hplatform, hpending, hshape⟩ := hinv
    exact ⟨_, step_of_fault hf, hflags, hmem, hplatform, hpending, hshape⟩

/-- A cycle makes at most one transaction. -/
theorem access_bus (s : State) (x : Access) : (s.access x).bus = s.bus ∨ ∃ y, (s.access x).bus = y :: s.bus := by
  cases x with
  | none => exact .inl rfl
  | read addr => exact .inr ⟨_, rfl⟩
  | write addr v => exact .inr ⟨_, rfl⟩

/-- Settles O56: the cycle after which the fetch follows makes no access of its own. -/
theorem atMostOneBusAccessPerCall : Obligations.AtMostOneBusAccessPerCall := by
  intro s t hinv hstep
  obtain ⟨hf, r, hr, hwf⟩ | hf := hinv.cases
  · obtain ⟨u, r', hu, -, -, -, hrem, hlast, hmore⟩ := step_of_wf hf hr hwf
    obtain ⟨-, hbus, -, hend⟩ := exec_access (s := s.beginCycle r) hwf.1 rfl hu
    by_cases h0 : r'.remaining = 0
    · have hmay : mayEndAt r.instr.form (r.i + 1) = true :=
        hwf.mayEndAt ((sub_one_eq_zero_iff _).mp (hrem.symm.trans h0))
      rw [if_pos hmay] at hend
      rw [hend] at hbus
      obtain rfl : _ = t := Host.Outcome.next.inj ((hlast h0).symm.trans hstep)
      exact .inr ⟨_, by rw [fetch_bus, setRecord_bus, hbus]; rfl⟩
    · obtain rfl : _ = t := Host.Outcome.next.inj ((hmore h0).1.symm.trans hstep)
      rw [setRecord_bus, hbus]
      exact access_bus (s.beginCycle r) _
  · obtain rfl : _ = t := Host.Outcome.next.inj ((step_of_fault hf).symm.trans hstep)
    exact .inl rfl

/-! ### The number of calls -/

/-- `k` of `n` calls of an instruction have been made: the cycles that remain, once a condition has been evaluated, are
the other `n - k`. -/
def InProgress (i : Instr) (n k : Nat) (u : State) : Prop :=
  u.fault = none ∧ ∃ r, u.record = some r ∧ r.wf ∧ r.instr = i ∧ r.i.toNat = k ∧
    k + (remainingAfter i.form (r.i + 1) (u.taken i.form) r.remaining).toNat = n

/-- The successor has been fetched: a new record, or a decode fault. -/
def Fetched (t : State) : Prop := t.fault.isSome = true ∨ ∃ r : Record, t.record = some r ∧ r.i = 0

theorem fetch_fetched (s : State) : Fetched s.fetch := by
  obtain ⟨r, hr, hfresh, -⟩ | ⟨-, -, hfault⟩ := fetch_record_cases s
  · exact .inr ⟨r, hr, hfresh.i⟩
  · exact .inl (by rw [hfault]; rfl)

theorem remainingAfter_of_ne {k : BitVec 3} (h : k ≠ 1) (f : Form) (taken : Bool) (old : BitVec 3) :
    remainingAfter f k taken old = old := if_neg h

theorem Record.wf.remainingAfter_ne_zero {r : Record} (h : r.wf) (k : BitVec 3) (taken : Bool) :
    remainingAfter r.instr.form k taken r.remaining ≠ 0 := by
  obtain ⟨-, -, hne, -⟩ := h
  obtain hsame | ⟨-, hshort⟩ := remainingAfter_cases r.instr.form k taken r.remaining
  · rwa [hsame]
  · intro h0
    obtain ⟨h2, -⟩ := cyclesNotTaken_bounds hshort
    rw [h0] at h2
    exact absurd h2 (by decide)

/-- One call more: the last of `n` fetches the successor. -/
theorem step_inProgress {i : Instr} {n k : Nat} {u : State} (h : InProgress i n k u) :
    ∃ t, step u = .next t ∧ ((k + 1 = n ∧ Fetched t) ∨ (k + 1 < n ∧ InProgress i n (k + 1) t)) := by
  obtain ⟨hf, r, hr, hwf, rfl, hi, hn⟩ := h
  obtain ⟨v, r', hv, -, hinstr, hi', hrem, hlast, hmore⟩ := step_of_wf hf hr hwf
  obtain ⟨hnext, -⟩ := hwf.next_i
  by_cases h0 : r'.remaining = 0
  · have hone := (sub_one_eq_zero_iff _).mp (hrem.symm.trans h0)
    rw [hone] at hn
    exact ⟨_, hlast h0, .inl ⟨hn, fetch_fetched _⟩⟩
  · obtain ⟨hstep, hwf'⟩ := hmore h0
    obtain ⟨-, -, -, -, -, hfault, -⟩ := exec_context_fields (s := u.beginCycle r) hwf.1 rfl hv
    have hpos : 0 < r'.remaining.toNat := Nat.pos_of_ne_zero fun h => h0 (BitVec.eq_of_toNat_eq h)
    have hless := toNat_sub_one (hwf.remainingAfter_ne_zero (r.i + 1) (u.taken r.instr.form))
    rw [← hrem] at hless
    have hne : r'.i + 1 ≠ 1 := fun h => by
      obtain ⟨hnext', -⟩ := hwf'.next_i
      rw [h, hi', hnext] at hnext'
      simp at hnext'
    refine ⟨_, hstep, .inr ⟨by omega, hfault.trans hf, r', rfl, hwf', hinstr, by rw [hi', hnext, hi], ?_⟩⟩
    rw [remainingAfter_of_ne hne]
    omega

/-- A freshly fetched instruction is at the beginning of its documented calls: R86, R87, R289. -/
theorem inProgress_of_freshlyFetched {s : State} {i : Instr} (hw : i.wellFormed = true) (h : s.freshlyFetched i) :
    InProgress i (s.documentedCycles i.form) 0 s := by
  obtain ⟨hf, -, r, hr, rfl, hlen, hrem, hi⟩ := h
  refine ⟨hf, r, hr, (Record.Fresh.mk hw hlen hrem hi).wf, rfl, by rw [hi]; rfl, ?_⟩
  rw [Nat.zero_add, hi, hrem, remainingAfter, if_pos (by decide), State.documentedCycles]
  split <;> rfl

theorem run_inProgress {i : Instr} {n k : Nat} {s : State} (h : InProgress i n 0 s) (hk : k < n) :
    ∃ u, Host.Core.run Sys2Proof.core k s = .next u ∧ InProgress i n k u := by
  induction k with
  | zero => exact ⟨s, rfl, h⟩
  | succ k ih =>
    obtain ⟨u, hrun, hu⟩ := ih (by omega)
    obtain ⟨t, hstep, ⟨hlast, -⟩ | ⟨-, ht⟩⟩ := step_inProgress hu
    · omega
    · exact ⟨t, run_succ_last hrun hstep, ht⟩

/-- An instruction in progress has a call left. -/
theorem InProgress.lt {i : Instr} {n k : Nat} {u : State} (h : InProgress i n k u) : k < n := by
  obtain ⟨t, -, ⟨hlast, -⟩ | ⟨hlt, -⟩⟩ := step_inProgress h <;> omega

/-- Settles O55: by induction on the calls made. -/
theorem documentedCycleCounts : Obligations.DocumentedCycleCounts := by
  intro s i _ hw hfresh
  have h0 := inProgress_of_freshlyFetched hw hfresh
  refine ⟨fun k hk => ?_, ?_⟩
  · obtain ⟨u, hrun, hf, r, hr, -, hinstr, hi, -⟩ := run_inProgress h0 hk
    exact ⟨u, r, hrun, hf, hr, hinstr, hi⟩
  · obtain ⟨n, hn⟩ : ∃ n, s.documentedCycles i.form = n + 1 := Nat.exists_eq_succ_of_ne_zero (Nat.ne_of_gt h0.lt)
    rw [hn] at h0 ⊢
    obtain ⟨u, hrun, hu⟩ := run_inProgress h0 (Nat.lt_succ_self n)
    obtain ⟨t, hstep, ⟨-, ht⟩ | ⟨hlt, -⟩⟩ := step_inProgress hu
    · exact ⟨t, run_succ_last hrun hstep, ht⟩
    · exact absurd hlt (Nat.lt_irrefl _)

/-! ### PREFIX -/

/-- Settles O50: the call of PREFIX is its only one, so it ends with the fetch of the byte after it. -/
theorem prefixSelectsThePrefixedTable : Obligations.PrefixSelectsThePrefixedTable := by
  rintro s ⟨hf, -, r, hr, hinstr, -, hrem, hi⟩
  have hexec : exec .prefixCB (s.beginCycle r) = .next { s.beginCycle r with prefixPending := true } :=
    exec_of_line (i := .prefixCB) (r := { r with i := r.i + 1 }) (line := fun _ s => { s with prefixPending := true })
      rfl (by rw [hi]; rfl)
  have hstep := step_of_exec hf hr (hinstr ▸ hexec)
  rw [endCycle_of_eq (r := { r with i := r.i + 1 }) rfl hrem] at hstep
  have hfetch := fetch_of_prefixPending (s := ({ s.beginCycle r with prefixPending := true }).setRecord
    { r with i := r.i + 1, remaining := 0 }) rfl
  refine ⟨_, _, hstep, fetch_prefixPending _, (fetch_fault_of_prefixPending rfl).trans hf, fetch_pc _,
    congrArg State.record hfetch, rfl, rfl, fetch_mem _, fetch_f _, fun hplain => ?_⟩
  exact congrArg decodePrefixed (readValue_plain (s := s.beginCycle r) hplain)

/-! ### IME and IME-scheduled -/

/-- IME and IME-scheduled through one cycle, an undefined row included. -/
theorem exec_ime {i : Instr} {s t : State} (h : exec i s = .next t) :
    (∃ k, t.ime = imeAfter i.form k s.ime) ∧ t.imeScheduled = imeScheduledAfter i.form s.imeScheduled := by
  by_cases hw : i.wellFormed = true
  · obtain ⟨r, hr⟩ := exec_next_record hw h
    obtain ⟨hime, hsched, -⟩ := exec_context_fields hw hr h
    exact ⟨⟨r.i, hime⟩, hsched⟩
  · obtain ⟨op, hop, rfl⟩ := exec_next_of_not_wellFormed hw h
    rw [hop]
    exact ⟨⟨0, rfl⟩, rfl⟩

/-- IME and IME-scheduled through one call: the transfer, then the cycle. -/
theorem step_ime {s t : State} (hf : s.fault = none) (h : step s = .next t) :
    ∃ r, s.record = some r ∧ (∃ k, t.ime = imeAfter r.instr.form k (s.ime || s.imeScheduled)) ∧
      t.imeScheduled = imeScheduledAfter r.instr.form false := by
  obtain ⟨hfault, -⟩ | ⟨-, r, u, hr, hexec, rfl⟩ := step_next h
  · rw [hf] at hfault
    cases hfault
  · obtain ⟨⟨k, hime⟩, hsched⟩ := exec_ime hexec
    exact ⟨r, hr, ⟨k, by rw [endCycle_ime, hime]; rfl⟩, by rw [endCycle_imeScheduled, hsched]; rfl⟩

theorem eq_ei_of_imeScheduledAfter {f : Form} (h : imeScheduledAfter f false = true) : f = .ei := by
  unfold imeScheduledAfter at h
  split at h
  · cases h
  · rfl
  · cases h

theorem imeAfter_true {f : Form} (k : BitVec 3) (h : f ≠ .di) : imeAfter f k true = true := by
  unfold imeAfter
  split
  · exact absurd rfl h
  · exact ite_self _
  · rfl

/-- Settles O57: IME-scheduled after a cycle is set by EI alone, and IME before it by the transfer. -/
theorem scheduledEnableOnlyAfterEI : Obligations.ScheduledEnableOnlyAfterEI := by
  refine ⟨fun s t hf h hsched => ?_, fun s r hf hsched hr => ⟨_, rfl, ?_⟩, fun s t hf hsched h r hr hdi => ?_,
    fun s t hf h r hr hdi => ?_⟩
  · obtain ⟨r, hr, ⟨k, hime⟩, hafter⟩ := step_ime hf h
    have hei : r.instr.form = .ei := eq_ei_of_imeScheduledAfter (hafter.symm.trans hsched)
    rw [hei] at hime
    exact ⟨r, hr, form_injective hei, hime⟩
  · have htransfer : true = (s.ime || s.imeScheduled) := by rw [hsched, Bool.or_true]
    rw [htransfer]
    exact step_of_record hf hr
  · obtain ⟨r', hr', ⟨k, hime⟩, -⟩ := step_ime hf h
    obtain rfl : r' = r := Option.some.inj (hr'.symm.trans hr)
    rw [hime, hsched, Bool.or_true]
    exact imeAfter_true k (form_injective.ne hdi)
  · obtain ⟨r', hr', ⟨k, hime⟩, hafter⟩ := step_ime hf h
    obtain rfl : r' = r := Option.some.inj (hr'.symm.trans hr)
    rw [hdi] at hime hafter
    exact ⟨hime, hafter⟩

/-! ### Halt-mode, stop-mode and IME are not read -/

/-- A cycle from a state that differs in the three bits alone. -/
theorem exec_withModes {i : Instr} {s t : State} (h : exec i s = .next t) (x y z : Bool) :
    ∃ t', exec i (s.withModes x y z) = .next t' ∧ SameButModes t t' := by
  by_cases hw : i.wellFormed = true
  · rw [exec_eq_form, runForm_defined (form_of_wellFormed hw)] at h
    obtain ⟨r, line, hr, hl, rfl⟩ := runLines_next h
    obtain ⟨k, hk, -⟩ := lineAt_some hl
    refine ⟨_, exec_of_line (s := s.withModes x y z) hr hl, ?_⟩
    exact List.forall_iff_forall_mem.mp (formLines_sameButModes i.form) line (List.mem_of_getElem? hk) r s x y z
  · obtain ⟨op, hop, rfl⟩ := exec_next_of_not_wellFormed hw h
    rw [exec_eq_form, hop]
    exact ⟨_, rfl, x, y, z, rfl⟩

/-- A fetch reads none of the three bits. -/
theorem fetch_withModes (s : State) (x y z : Bool) : (s.withModes x y z).fetch = s.fetch.withModes x y z := by
  cases hp : s.prefixPending with
  | true =>
    rw [fetch_of_prefixPending hp, fetch_of_prefixPending (s := s.withModes x y z) hp]
    rfl
  | false =>
    by_cases hop : s.readValue s.pc ∈ undefinedBytes
    · rw [fetch_of_undefined hp hop, fetch_of_undefined (s := s.withModes x y z) hp hop]
      rfl
    · have hok := decodeBase_of_not_undefined hop
      rw [fetch_of_decodeBase hp hok, fetch_of_decodeBase (s := s.withModes x y z) hp hok]
      rfl

theorem endCycle_withModes (s : State) (x y z : Bool) : (s.withModes x y z).endCycle = s.endCycle.withModes x y z := by
  cases hr : s.record with
  | none =>
    rw [State.endCycle, State.endCycle, hr, show (s.withModes x y z).record = none from hr]
  | some r =>
    rw [endCycle_of_record hr, endCycle_of_record (s := s.withModes x y z) hr]
    split
    · exact fetch_withModes (s.setRecord _) x y z
    · rfl

/-- Settles O58: a cycle, the fetch and the end of a call commute with a replacement of the three bits. -/
theorem nothingReadsHaltStopOrIme : Obligations.NothingReadsHaltStopOrIme := by
  intro s t x y z h
  obtain ⟨hf, rfl⟩ | ⟨hf, r, u, hr, hexec, rfl⟩ := step_next h
  · exact ⟨x, y, z, step_of_fault (s := s.withModes x y z) hf⟩
  · obtain ⟨u', hu', x', y', z', rfl⟩ := exec_withModes hexec x y (z || s.imeScheduled)
    refine ⟨x', y', z', ?_⟩
    have hstep := step_of_exec (s := s.withModes x y z) hf hr hu'
    rw [endCycle_withModes] at hstep
    exact hstep

end Sys2Proof.Machine

/-! PROOFS. Whole instructions: what a run of all the calls of an instruction leaves, and the obligations of
45_control.md R206 to R208 and R210 on calls and returns. -/

namespace Sys2Proof.Machine

/-! ### A run of a whole schedule -/

/-- One call that runs `line`, without the fetch that may end it. -/
def State.tick (s : State) (line : Line) : State :=
  match s.record with
  | none => s
  | some r => (line { r with i := r.i + 1 } (s.beginCycle r)).countDown

theorem tick_of_record {s : State} {r : Record} (hr : s.record = some r) (line : Line) :
    s.tick line = (line { r with i := r.i + 1 } (s.beginCycle r)).countDown := by
  rw [State.tick, hr]

/-- A call of an instruction in progress ticks through its schedule's next line; the last one fetches. -/
theorem step_tick {i : Instr} {n k : Nat} {u : State} (h : InProgress i n k u) :
    ∃ line, (formLines i.form)[k]? = some line ∧
      step u = .next (if k + 1 = n then (u.tick line).fetch else u.tick line) := by
  obtain ⟨hf, r, hr, hwf, rfl, hi, hn⟩ := h
  obtain ⟨v, r', hv, hdown, -, -, hrem, hlast, hmore⟩ := step_of_wf hf hr hwf
  obtain ⟨hnext, -⟩ := hwf.next_i
  obtain ⟨op, hop, -⟩ | ⟨q, line, k', hq, hline, hk', rfl⟩ := exec_next_cases hv
  · exact absurd hop (form_of_wellFormed hwf.1 op)
  · obtain rfl : { r with i := r.i + 1 } = q := Option.some.inj hq
    obtain rfl : k = k' := by
      rw [hi] at hnext
      exact Nat.succ.inj (hnext.symm.trans hk')
    refine ⟨line, hline, ?_⟩
    rw [tick_of_record hr, hdown]
    have hpos := hwf.remainingAfter_ne_zero (r.i + 1) (u.taken r.instr.form)
    split
    · next hlt =>
      refine hlast (hrem.trans ((sub_one_eq_zero_iff _).mpr (BitVec.eq_of_toNat_eq ?_)))
      rw [show (1 : BitVec 3).toNat = 1 from rfl]
      omega
    · next hne =>
      refine (hmore fun h0 => hne ?_).1
      rw [(sub_one_eq_zero_iff _).mp (hrem.symm.trans h0)] at hn
      exact hn

/-- The first `k` calls of the schedule `lines`, without the fetch that may end the last of them. -/
def State.ticks (s : State) (lines : List Line) (k : Nat) : State := (lines.take k).foldl State.tick s

theorem ticks_succ {lines : List Line} {k : Nat} {line : Line} (h : lines[k]? = some line) (s : State) :
    s.ticks lines (k + 1) = (s.ticks lines k).tick line := by
  rw [State.ticks, List.take_add_one, h, List.foldl_append]
  rfl

@[simp] theorem ticks_zero (s : State) (lines : List Line) : s.ticks lines 0 = s := rfl

@[simp] theorem ticks_cons (s : State) (line : Line) (lines : List Line) (k : Nat) :
    s.ticks (line :: lines) (k + 1) = (s.tick line).ticks lines k := rfl

/-- Before its last call an instruction in progress has ticked through the first lines of its schedule. -/
theorem run_ticks {i : Instr} {n k : Nat} {s : State} (h : InProgress i n 0 s) (hk : k < n) :
    Host.Core.run Sys2Proof.core k s = .next (s.ticks (formLines i.form) k) ∧
      InProgress i n k (s.ticks (formLines i.form) k) := by
  induction k with
  | zero => exact ⟨rfl, h⟩
  | succ k ih =>
    obtain ⟨hrun, hu⟩ := ih (by omega)
    obtain ⟨line, hline, hstep⟩ := step_tick hu
    rw [if_neg (Nat.ne_of_lt hk)] at hstep
    rw [ticks_succ hline]
    obtain ⟨t, ht, ⟨hlast, -⟩ | ⟨-, hprogress⟩⟩ := step_inProgress hu
    · omega
    · obtain rfl : _ = t := Host.Outcome.next.inj (hstep.symm.trans ht)
      exact ⟨run_succ_last hrun hstep, hprogress⟩

/-- All the documented calls of a freshly fetched instruction: the lines of its schedule, then the fetch. -/
theorem run_documentedCycles {i : Instr} {s : State} {n : Nat} (hw : i.wellFormed = true) (h : s.freshlyFetched i)
    (hn : s.documentedCycles i.form = n + 1) :
    Host.Core.run Sys2Proof.core (n + 1) s = .next (s.ticks (formLines i.form) (n + 1)).fetch := by
  have h0 := inProgress_of_freshlyFetched hw h
  rw [hn] at h0
  obtain ⟨hrun, hu⟩ := run_ticks h0 (Nat.lt_succ_self n)
  obtain ⟨line, hline, hstep⟩ := step_tick hu
  rw [if_pos rfl] at hstep
  rw [ticks_succ hline]
  exact run_succ_last hrun hstep

/-! ### The two immediate bytes and the two popped bytes -/

/-- `line` reads the immediate byte into lo; it may change the count of remaining cycles. -/
def ReadsLo (line : Line) : Prop :=
  ∀ (r : Record) (s : State), ∃ x, line r s = s.imm8.2.setRecord { r with lo := s.imm8.1, remaining := x }

theorem readsLo_immLo : ReadsLo immLo := fun r _ => ⟨r.remaining, rfl⟩

theorem readsLo_immLoUnless (cc : Cond) (short : BitVec 3) : ReadsLo (immLoUnless cc short) := fun r s =>
  ⟨if s.cond cc then r.remaining else short, by rw [immLoUnless_eq]⟩

/-- PC replaced. -/
def State.withPC (s : State) (v : Word) : State := { s with pc := v }

@[simp] theorem withPC_pc (s : State) (v : Word) : (s.withPC v).pc = v := rfl
@[simp] theorem withPC_sp (s : State) (v : Word) : (s.withPC v).sp = s.sp := rfl
@[simp] theorem withPC_f (s : State) (v : Word) : (s.withPC v).f = s.f := rfl
@[simp] theorem withPC_ime (s : State) (v : Word) : (s.withPC v).ime = s.ime := rfl
@[simp] theorem withPC_imeScheduled (s : State) (v : Word) : (s.withPC v).imeScheduled = s.imeScheduled := rfl
@[simp] theorem withPC_mem (s : State) (v : Word) : (s.withPC v).mem = s.mem := rfl
@[simp] theorem withPC_delegatedWrite (s : State) (v : Word) : (s.withPC v).delegatedWrite = s.delegatedWrite := rfl
@[simp] theorem withPC_bus (s : State) (v : Word) : (s.withPC v).bus = s.bus := rfl
@[simp] theorem withPC_record (s : State) (v : Word) : (s.withPC v).record = s.record := rfl
@[simp] theorem withPC_reg (s : State) (v : Word) (x : Reg8) : (s.withPC v).reg x = s.reg x := by
  cases x <;> rfl

/-- SP replaced. -/
def State.withSP (s : State) (v : Word) : State := { s with sp := v }

@[simp] theorem withSP_sp (s : State) (v : Word) : (s.withSP v).sp = v := rfl
@[simp] theorem withSP_f (s : State) (v : Word) : (s.withSP v).f = s.f := rfl
@[simp] theorem withSP_ime (s : State) (v : Word) : (s.withSP v).ime = s.ime := rfl
@[simp] theorem withSP_imeScheduled (s : State) (v : Word) : (s.withSP v).imeScheduled = s.imeScheduled := rfl
@[simp] theorem withSP_mem (s : State) (v : Word) : (s.withSP v).mem = s.mem := rfl
@[simp] theorem withSP_record (s : State) (v : Word) : (s.withSP v).record = s.record := rfl
@[simp] theorem withSP_reg (s : State) (v : Word) (x : Reg8) : (s.withSP v).reg x = s.reg x := by
  cases x <;> rfl

/-- After a call that reads the byte at `addr`, but for the register that held the address. -/
def State.afterRead (s : State) (addr : Word) (q : Record) : State :=
  { s.transferIme.countCall with record := some q, bus := .read addr (Memory.read s.mem addr) :: s.bus }

theorem imm8_plain {s : State} (h : s.plainRead s.pc) : s.imm8 = (Memory.read s.mem s.pc,
    { s with pc := s.pc + 1, bus := .read s.pc (Memory.read s.mem s.pc) :: s.bus }) := by
  rw [imm8_eq, readValue_plain h]

theorem pop8_plain {s : State} (h : s.plainRead s.sp) : s.pop8 = (Memory.read s.mem s.sp,
    { s with sp := s.sp + 1, bus := .read s.sp (Memory.read s.mem s.sp) :: s.bus }) := by
  rw [← readValue_plain h]
  rfl

theorem tick_readsLo {s : State} {r : Record} {line : Line} (hline : ReadsLo line) (hr : s.record = some r)
    (h : s.plainRead s.pc) :
    ∃ q : Record, s.tick line = (s.afterRead s.pc q).withPC (s.pc + 1) ∧ q.lo = Memory.read s.mem s.pc := by
  obtain ⟨x, hx⟩ := hline { r with i := r.i + 1 } (s.beginCycle r)
  rw [tick_of_record hr, hx, imm8_plain (s := s.beginCycle r) h]
  exact ⟨_, rfl, rfl⟩

theorem tick_immHi {s : State} {r : Record} (hr : s.record = some r) (h : s.plainRead s.pc) :
    ∃ q : Record, s.tick immHi = (s.afterRead s.pc q).withPC (s.pc + 1) ∧ q.lo = r.lo ∧
      q.hi = Memory.read s.mem s.pc := by
  rw [tick_of_record hr, immHi, imm8_plain (s := s.beginCycle r) h]
  exact ⟨_, rfl, rfl, rfl⟩

theorem tick_popLo {s : State} {r : Record} (hr : s.record = some r) (h : s.plainRead s.sp) :
    ∃ q : Record, s.tick popLo = (s.afterRead s.sp q).withSP (s.sp + 1) ∧ q.lo = Memory.read s.mem s.sp := by
  rw [tick_of_record hr, popLo, pop8_plain (s := s.beginCycle r) h]
  exact ⟨_, rfl, rfl⟩

theorem tick_popHi {s : State} {r : Record} (hr : s.record = some r) (h : s.plainRead s.sp) :
    ∃ q : Record, s.tick popHi = (s.afterRead s.sp q).withSP (s.sp + 1) ∧ q.lo = r.lo ∧
      q.hi = Memory.read s.mem s.sp := by
  rw [tick_of_record hr, popHi, pop8_plain (s := s.beginCycle r) h]
  exact ⟨_, rfl, rfl, rfl⟩

/-- After two calls that read the bytes at `addr` and above it, but for the register that held the address. -/
def State.afterTwoReads (s : State) (addr : Word) (q : Record) : State :=
  { s.transferIme.countCall.countCall with
    record := some q
    bus := .read (addr + 1) (Memory.read s.mem (addr + 1)) :: .read addr (Memory.read s.mem addr) :: s.bus }

section
variable (s : State) (addr : Word) (q : Record)

@[simp] theorem afterTwoReads_sp : (s.afterTwoReads addr q).sp = s.sp := rfl
@[simp] theorem afterTwoReads_pc : (s.afterTwoReads addr q).pc = s.pc := rfl
@[simp] theorem afterTwoReads_f : (s.afterTwoReads addr q).f = s.f := rfl
@[simp] theorem afterTwoReads_ime : (s.afterTwoReads addr q).ime = (s.ime || s.imeScheduled) := rfl
@[simp] theorem afterTwoReads_imeScheduled : (s.afterTwoReads addr q).imeScheduled = false := rfl
@[simp] theorem afterTwoReads_bus : (s.afterTwoReads addr q).bus =
    .read (addr + 1) (Memory.read s.mem (addr + 1)) :: .read addr (Memory.read s.mem addr) :: s.bus := rfl
@[simp] theorem afterTwoReads_mem : (s.afterTwoReads addr q).mem = s.mem := rfl
@[simp] theorem afterTwoReads_delegatedWrite : (s.afterTwoReads addr q).delegatedWrite = s.delegatedWrite := rfl
@[simp] theorem afterTwoReads_record : (s.afterTwoReads addr q).record = some q := rfl
@[simp] theorem afterTwoReads_reg (x : Reg8) : (s.afterTwoReads addr q).reg x = s.reg x := by
  cases x <;> rfl
end

theorem add_one_add_one (v : Word) : v + 1 + 1 = v + 2 := by
  rw [BitVec.add_assoc]
  rfl

/-- A transfer of IME-scheduled leaves nothing for the next one: R89. -/
theorem transferIme_transferIme (s : State) : s.transferIme.transferIme = s.transferIme := by
  rw [State.transferIme, transferIme_ime, transferIme_imeScheduled, Bool.or_false]
  rfl

/-- The two calls that read a 16-bit immediate. -/
theorem tick_immediates {s : State} {r : Record} {line : Line} (hline : ReadsLo line) (hr : s.record = some r)
    (h0 : s.plainRead s.pc) (h1 : s.plainRead (s.pc + 1)) :
    ∃ q : Record, (s.tick line).tick immHi = (s.afterTwoReads s.pc q).withPC (s.pc + 2) ∧
      q.lo = Memory.read s.mem s.pc ∧ q.hi = Memory.read s.mem (s.pc + 1) := by
  obtain ⟨q, hfirst, hlo⟩ := tick_readsLo hline hr h0
  obtain ⟨q', hsecond, hlo', hhi⟩ := tick_immHi (s := (s.afterRead s.pc q).withPC (s.pc + 1)) rfl h1
  refine ⟨q', ?_, hlo'.trans hlo, hhi⟩
  rw [hfirst, hsecond, ← add_one_add_one, State.afterTwoReads, ← transferIme_transferIme]
  rfl

/-- The two calls that pop a word. -/
theorem tick_pops {s : State} {r : Record} (hr : s.record = some r) (h0 : s.plainRead s.sp)
    (h1 : s.plainRead (s.sp + 1)) :
    ∃ q : Record, (s.tick popLo).tick popHi = (s.afterTwoReads s.sp q).withSP (s.sp + 2) ∧
      q.lo = Memory.read s.mem s.sp ∧ q.hi = Memory.read s.mem (s.sp + 1) := by
  obtain ⟨q, hfirst, hlo⟩ := tick_popLo hr h0
  obtain ⟨q', hsecond, hlo', hhi⟩ := tick_popHi (s := (s.afterRead s.sp q).withSP (s.sp + 1)) rfl h1
  refine ⟨q', ?_, hlo'.trans hlo, hhi⟩
  rw [hfirst, hsecond, ← add_one_add_one, State.afterTwoReads, ← transferIme_transferIme]
  rfl

/-! ### The end of a call and of a return -/

/-- After a call whose line changed the state to `s` and left the record's bytes. -/
def State.afterCall (s : State) (q : Record) : State := s.transferIme.countCall.setRecord q

@[simp] theorem afterCall_pc (s : State) (q : Record) : (s.afterCall q).pc = s.pc := rfl
@[simp] theorem afterCall_sp (s : State) (q : Record) : (s.afterCall q).sp = s.sp := rfl
@[simp] theorem afterCall_f (s : State) (q : Record) : (s.afterCall q).f = s.f := rfl
@[simp] theorem afterCall_ime (s : State) (q : Record) : (s.afterCall q).ime = (s.ime || s.imeScheduled) := rfl
@[simp] theorem afterCall_imeScheduled (s : State) (q : Record) : (s.afterCall q).imeScheduled = false := rfl
@[simp] theorem afterCall_bus (s : State) (q : Record) : (s.afterCall q).bus = s.bus := rfl
@[simp] theorem afterCall_mem (s : State) (q : Record) : (s.afterCall q).mem = s.mem := rfl
@[simp] theorem afterCall_record (s : State) (q : Record) : (s.afterCall q).record = some q := rfl
@[simp] theorem afterCall_reg (s : State) (q : Record) (x : Reg8) : (s.afterCall q).reg x = s.reg x := by
  cases x <;> rfl

/-- What a call does around a push does not depend on the push. -/
theorem push8_afterCall (s : State) (q : Record) (v : Byte) : (s.afterCall q).push8 v = (s.push8 v).afterCall q := rfl

theorem push8_reg (s : State) (v : Byte) (x : Reg8) : (s.push8 v).reg x = s.reg x := by
  cases x <;> rfl

theorem tick_idle {s : State} {r : Record} (hr : s.record = some r) :
    ∃ q : Record, s.tick idle = s.afterCall q ∧ q.lo = r.lo ∧ q.hi = r.hi := by
  rw [tick_of_record hr]
  exact ⟨_, rfl, rfl, rfl⟩

theorem tick_pushPCHi {s : State} {r : Record} (hr : s.record = some r) :
    ∃ q : Record, s.tick pushPCHi = (s.push8 (hi8 s.pc)).afterCall q ∧ q.lo = r.lo ∧ q.hi = r.hi := by
  rw [tick_of_record hr]
  exact ⟨_, rfl, rfl, rfl⟩

theorem tick_pushPCLo {s : State} {r : Record} (hr : s.record = some r) :
    ∃ q : Record, s.tick pushPCLo = (s.push8 (lo8 s.pc)).afterCall q ∧ q.lo = r.lo ∧ q.hi = r.hi := by
  rw [tick_of_record hr]
  exact ⟨_, rfl, rfl, rfl⟩

theorem tick_jumpHiLo {s : State} {r : Record} (hr : s.record = some r) :
    ∃ q : Record, s.tick jumpHiLo = (s.withPC (cat16 r.hi r.lo)).afterCall q := by
  rw [tick_of_record hr]
  exact ⟨_, rfl⟩

/-- What a taken call leaves: the return address pushed, and the target in PC. -/
structure Called (s u : State) (returnAddress target : Word) : Prop where
  pc : u.pc = target
  sp : u.sp = s.sp - 2
  mem : u.mem = ((s.push8 (hi8 returnAddress)).push8 (lo8 returnAddress)).mem
  reg : ∀ x : Reg8, u.reg x = s.reg x
  f : u.f = s.f

theorem push8_mem_congr {s v : State} (hsp : v.sp = s.sp) (hmem : v.mem = s.mem)
    (hdelegated : v.delegatedWrite = s.delegatedWrite) (x : Byte) : (v.push8 x).mem = (s.push8 x).mem := by
  rw [push8_mem, push8_mem, hsp, hmem, hdelegated]

/-- What a call leaves depends on SP, memory, the write delegates, the registers and F. -/
theorem Called.of_frame {s v u : State} {ret target : Word} (h : Called v u ret target) (hsp : v.sp = s.sp)
    (hmem : v.mem = s.mem) (hdelegated : v.delegatedWrite = s.delegatedWrite) (hreg : ∀ x : Reg8, v.reg x = s.reg x)
    (hf : v.f = s.f) : Called s u ret target where
  pc := h.pc
  sp := h.sp.trans (congrArg (· - 2) hsp)
  mem := h.mem.trans (push8_mem_congr (congrArg (· - 1) hsp) (push8_mem_congr hsp hmem hdelegated _) hdelegated _)
  reg x := (h.reg x).trans (hreg x)
  f := h.f.trans hf

/-- The end of a taken call from the state after its immediates: the two pushes and the jump, R206. -/
theorem tick_pushesAndJump {s : State} {r : Record} (hr : s.record = some r) :
    Called s ((((s.tick idle).tick pushPCHi).tick pushPCLo).tick jumpHiLo) s.pc (cat16 r.hi r.lo) := by
  obtain ⟨q₁, h₁, hlo₁, hhi₁⟩ := tick_idle hr
  obtain ⟨q₂, h₂, hlo₂, hhi₂⟩ := tick_pushPCHi (afterCall_record s q₁)
  obtain ⟨q₃, h₃, hlo₃, hhi₃⟩ := tick_pushPCLo (afterCall_record ((s.push8 (hi8 s.pc)).afterCall q₁) q₂)
  obtain ⟨q₄, h₄⟩ := tick_jumpHiLo
    (afterCall_record ((((s.push8 (hi8 s.pc)).push8 (lo8 s.pc)).afterCall q₁).afterCall q₂) q₃)
  simp only [push8_afterCall, afterCall_pc, push8_pc] at h₂ h₃
  rw [← hlo₁, ← hlo₂, ← hlo₃, ← hhi₁, ← hhi₂, ← hhi₃, h₁, h₂, h₃, h₄]
  constructor
  case pc => rfl
  case sp => simp only [afterCall_sp, withPC_sp, push8_sp, sub_one_sub_one]
  case mem => simp only [afterCall_mem, withPC_mem]
  case reg => simp only [afterCall_reg, withPC_reg, push8_reg, implies_true]
  case f => simp only [afterCall_f, withPC_f, push8_f]

/-- Two pushes leave every other address alone. -/
theorem push8_push8_read_other (s : State) (hi lo : Byte) {other : Word} (h1 : other ≠ s.sp - 1)
    (h2 : other ≠ s.sp - 2) :
    Memory.read ((s.push8 hi).push8 lo).mem other = Memory.read s.mem other := by
  have hsecond : other ≠ (s.push8 hi).sp - 1 := by rwa [push8_sp, sub_one_sub_one]
  exact (memWrite_read_other _ lo hsecond).trans (memWrite_read_other _ hi h1)

/-- All six calls of a taken call: R206, R207. -/
theorem run_call {s : State} {i : Instr} {line : Line} (hline : ReadsLo line)
    (hlines : formLines i.form = [line, immHi, idle, pushPCHi, pushPCLo, jumpHiLo]) (hn : s.documentedCycles i.form = 6)
    (hw : i.wellFormed = true) (hfresh : s.freshlyFetched i) (h0 : s.plainRead s.pc) (h1 : s.plainRead (s.pc + 1)) :
    ∃ u : State, Host.Core.run Sys2Proof.core 6 s = .next u.fetch ∧
      Called s u (s.pc + 2) (cat16 (Memory.read s.mem (s.pc + 1)) (Memory.read s.mem s.pc)) := by
  have hrun := run_documentedCycles hw hfresh hn
  obtain ⟨-, -, r, hr, -⟩ := hfresh
  obtain ⟨q, himm, hlo, hhi⟩ := tick_immediates hline hr h0 h1
  have hcalled := tick_pushesAndJump (s := (s.afterTwoReads s.pc q).withPC (s.pc + 2)) rfl
  rw [withPC_pc, hlo, hhi] at hcalled
  simp only [hlines, ticks_cons, ticks_zero, himm] at hrun
  exact ⟨_, hrun, hcalled.of_frame (by simp) (by simp) (by simp) (by simp) (by simp)⟩

theorem wellFormed_of_form_eq {i : Instr} {f : Form} (hform : i.form = f) (h : ∀ op, f ≠ .undefined op) :
    i.wellFormed = true := wellFormed_of_form fun op => by rw [hform]; exact h op

/-- `CALL nn`, and `CALL cc,nn` when its condition holds. -/
theorem run_takenCall {s : State} {i : Instr} (hi : i = .call_nn ∨ ∃ cc, i.form = .callCc cc ∧ s.cond cc = true)
    (hfresh : s.freshlyFetched i) (h0 : s.plainRead s.pc) (h1 : s.plainRead (s.pc + 1)) :
    ∃ u : State, Host.Core.run Sys2Proof.core 6 s = .next u.fetch ∧
      Called s u (s.pc + 2) (cat16 (Memory.read s.mem (s.pc + 1)) (Memory.read s.mem s.pc)) := by
  obtain rfl | ⟨cc, hform, hcond⟩ := hi
  · exact run_call readsLo_immLo rfl rfl rfl hfresh h0 h1
  · have hn : s.documentedCycles i.form = 6 := by
      rw [State.documentedCycles, hform, State.taken, if_pos hcond]
      rfl
    exact run_call (readsLo_immLoUnless cc 3) (by rw [hform]; rfl) hn
      (wellFormed_of_form_eq hform fun _ => Form.noConfusion) hfresh h0 h1

/-- Settles O59: the lines of the schedule one by one, on a state in which every read is plain. -/
theorem callsPushAndJumpOrFallThrough : Obligations.CallsPushAndJumpOrFallThrough := by
  refine ⟨fun s i hi hfresh h0 h1 => ?_, fun s i cc hform hcond hfresh h0 h1 => ?_⟩
  · obtain ⟨u, hrun, hpc, hsp, hmem, hreg, hf⟩ := run_takenCall hi hfresh h0 h1
    refine ⟨u, hrun, hpc, hsp, hmem, hreg, hf, fun hwf w1 w2 => ?_, fun other n1 n2 => ?_⟩
    · rw [hmem]
      exact push8_push8_mem hwf w1 w2 _ _
    · rw [hmem]
      exact push8_push8_read_other s _ _ n1 n2
  · have hn : s.documentedCycles i.form = 3 := by
      rw [State.documentedCycles, hform, State.taken, hcond]
      rfl
    have hrun := run_documentedCycles (wellFormed_of_form_eq hform fun _ => Form.noConfusion) hfresh hn
    obtain ⟨-, -, r, hr, -⟩ := hfresh
    obtain ⟨q, himm, -⟩ := tick_immediates (readsLo_immLoUnless cc 3) hr h0 h1
    obtain ⟨q', hidle, -⟩ := tick_idle (s := (s.afterTwoReads s.pc q).withPC (s.pc + 2)) rfl
    simp only [hform, formLines, linesCallCc, ticks_cons, ticks_zero, himm, hidle] at hrun
    exact ⟨_, hrun, by simp, by simp, by simp, by simp, by simp, by simp⟩

/-! ### Returns -/

/-- What a return leaves: the popped address in PC. -/
structure Returned (s u : State) : Prop where
  pc : u.pc = cat16 (Memory.read s.mem (s.sp + 1)) (Memory.read s.mem s.sp)
  sp : u.sp = s.sp + 2
  mem : u.mem = s.mem
  reg : ∀ x : Reg8, u.reg x = s.reg x
  f : u.f = s.f
  ime : u.ime = (s.ime || s.imeScheduled)

/-- The two pops and the jump: R208. -/
theorem tick_return {s : State} {r : Record} (hr : s.record = some r) (h0 : s.plainRead s.sp)
    (h1 : s.plainRead (s.sp + 1)) :
    Returned s ((((s.tick popLo).tick popHi).tick idle).tick jumpHiLo) := by
  obtain ⟨q, hpops, hlo, hhi⟩ := tick_pops hr h0 h1
  obtain ⟨q₁, h₁, hlo₁, hhi₁⟩ := tick_idle (s := (s.afterTwoReads s.sp q).withSP (s.sp + 2)) rfl
  obtain ⟨q₂, h₂⟩ := tick_jumpHiLo (afterCall_record ((s.afterTwoReads s.sp q).withSP (s.sp + 2)) q₁)
  rw [hpops, h₁, h₂, hlo₁, hhi₁, hlo, hhi]
  constructor <;> simp

/-- The last line of RETI is that of RET, IME with it: R210. -/
theorem tick_jumpHiLo_ime (s : State) {r : Record} (hr : s.record = some r) :
    s.tick (fun r s => { jumpHiLo r s with ime := true }) = { s.tick jumpHiLo with ime := true } := by
  rw [tick_of_record hr, tick_of_record hr]
  rfl

/-- Settles O60: RETI differs from RET in its last call. -/
theorem returnGoesToThePoppedAddress : Obligations.ReturnGoesToThePoppedAddress := by
  intro s i hi hfresh h0 h1
  obtain ⟨-, -, r, hr, -⟩ := id hfresh
  obtain ⟨hpc, hsp, hmem, hreg, hf, hime⟩ := tick_return hr h0 h1
  obtain rfl | rfl := hi
  · have hrun := run_documentedCycles (n := 3) rfl hfresh rfl
    exact ⟨_, hrun, hpc, hsp, hmem, hreg, hf, Instr.noConfusion, fun _ => hime⟩
  · have hrun := run_documentedCycles (n := 3) rfl hfresh rfl
    obtain ⟨-, -, q, hq, -⟩ := run_ticks (n := 4) (k := 3) (inProgress_of_freshlyFetched rfl hfresh) (by decide)
    have hlast : s.ticks linesReti 4 = { (((s.tick popLo).tick popHi).tick idle).tick jumpHiLo with ime := true } :=
      tick_jumpHiLo_ime _ hq
    exact ⟨_, hrun.trans (congrArg (fun u => Host.Outcome.next (State.fetch u)) hlast), hpc, hsp, hmem, hreg, hf,
      fun _ => rfl, Instr.noConfusion⟩

end Sys2Proof.Machine
